-- ==== Sys2Proof/Word.lean ====
section
/-! DEFINITION. The two word types of the CPU bus (spec/20_memory.md R44, R54): a byte is the width of every
access and of the registers A, X, Y, SP and P; a word is the width of a CPU address and of PC. -/

namespace Sys2Proof

/-- An 8-bit value: a memory cell, a CPU register, an operand byte (R10, R12 `u8`). -/
abbrev Byte := BitVec 8

/-- A 16-bit value: a CPU bus address, the program counter (R10, R12 `u16`). -/
abbrev Word := BitVec 16

end Sys2Proof
end

