-- ==== Sys2Proof/Config.lean ====
section
/-! DEFINITION. The implementation parameters of spec/00_scope.md R11: one type per policy, the structure that
holds a choice of all of them, and the constants the spec leaves OPEN, which have no body so that nothing can be
proved of their value. -/

namespace Sys2Proof

/-- MIX_MODE (R11, R234, R235). -/
inductive MixMode where
  | table
  | linear
deriving DecidableEq, Repr, Inhabited

/-- SH_POLICY (R11, R166): what the five unstable high-byte stores do. -/
inductive ShPolicy where
  | formula
  | refuse
deriving DecidableEq, Repr, Inhabited

/-- JAM_POLICY (R11, R172): what the twelve JAM opcodes do. -/
inductive JamPolicy where
  | halt
  | fault
deriving DecidableEq, Repr, Inhabited

/-- MAPPER_IRQ_ACK (R11, R243): whether an IRQ entry clears the cartridge's IRQ. -/
inductive MapperIrqAck where
  | level
  | clearOnDelivery
deriving DecidableEq, Repr, Inhabited

/-- RESET_SCOPE (R11, R271): what a host soft reset resets. -/
inductive ResetScope where
  | cpuOnly
  | cpuPpuApu
deriving DecidableEq, Repr, Inhabited

/-- The five mirroring modes a cartridge can report (R49, R177). -/
inductive MirrorMode where
  | hardwired
  | horizontal
  | vertical
  | oneScreenLo
  | oneScreenHi
deriving DecidableEq, Repr, Inhabited

/-- The two wirings `cart.hardwiredMirror()` can report (R49, R177). -/
inductive HardwiredMirror where
  | horizontal
  | vertical
deriving DecidableEq, Repr, Inhabited

/-- One choice of the parameters of R11 other than CART. The state carries it (`State.params`) and no step changes
it, so a statement about every state is a statement about every choice. `sampleRateIndex` is SAMPLE_RATE minus 1, so
that the type is exactly the range 1..5360490 of R237. -/
structure Params where
  sampleRateIndex : Fin 5360490
  mixMode : MixMode
  xaaMagic : Byte
  lxaMagic : Byte
  shPolicy : ShPolicy
  jamPolicy : JamPolicy
  ctrlOpenBus : Byte
  mapperIrqAck : MapperIrqAck
  resetScope : ResetScope
deriving DecidableEq, Repr

/-- SAMPLE_RATE in Hz, 1..5360490 (R237). -/
def Params.sampleRate (p : Params) : Nat := p.sampleRateIndex.val + 1

/-- SAMPLE_RATE minus 1. OPEN (R11, D36): a free value. -/
opaque Config.sampleRateIndex : Fin 5360490

/-- XAA_MAGIC. OPEN (R11, R163, D14): a free value. -/
opaque Config.xaaMagic : Byte

/-- LXA_MAGIC. OPEN (R11, R164, D14): a free value. -/
opaque Config.lxaMagic : Byte

/-- `cpuRead` of an unknown cartridge (R49): CART is OPEN, its state `cs` is a number that codes it. -/
opaque Config.cartCpuRead : Nat → Word → Option Byte × Nat

/-- `cpuWrite` of an unknown cartridge (R49): whether it claims the write, and its new state. -/
opaque Config.cartCpuWrite : Nat → Word → Byte → Bool × Nat

/-- `ppuRead` of an unknown cartridge (R49), at a 14-bit PPU address (R174). -/
opaque Config.cartPpuRead : Nat → BitVec 14 → Option Byte × Nat

/-- `ppuWrite` of an unknown cartridge (R49), at a 14-bit PPU address (R174). -/
opaque Config.cartPpuWrite : Nat → BitVec 14 → Byte → Bool × Nat

/-- `mirrorMode` of an unknown cartridge (R49). -/
opaque Config.cartMirrorMode : Nat → MirrorMode

/-- `hardwiredMirror` of an unknown cartridge (R49). -/
opaque Config.cartHardwiredMirror : Nat → HardwiredMirror

/-- `getIrq` of an unknown cartridge (R49). -/
opaque Config.cartGetIrq : Nat → Bool

/-- `clearIrq` of an unknown cartridge (R49). -/
opaque Config.cartClearIrq : Nat → Nat

/-- `countScanline` of an unknown cartridge (R49). -/
opaque Config.cartCountScanline : Nat → Nat

/-- The parameters of the machine after power-on: the defaults of R11 where the spec gives one, the free values
where it says OPEN. -/
def Config.params : Params where
  sampleRateIndex := Config.sampleRateIndex
  mixMode := .table
  xaaMagic := Config.xaaMagic
  lxaMagic := Config.lxaMagic
  shPolicy := .formula
  jamPolicy := .halt
  ctrlOpenBus := 0x40#8
  mapperIrqAck := .level
  resetScope := .cpuOnly

end Sys2Proof
end

