-- ==== Sys2Proof/Machine/State.lean ====
section
/-! DEFINITION. Every piece of state the spec gives the machine (spec/10_state.md R18-R42), as plain data, with the
reasons a step can stop (R15, R249) and the machine right after power-on with no cartridge (R269, R270, R50).
INVENTORY.md lists each field with its rule. -/

namespace Sys2Proof.Machine

/-- A memory of `w`-bit entries: (key, entry) pairs, keys strictly rising, no entry equal to 0, which is what an
unlisted key reads as (R33, R41: every memory of the core is all 0 at power-on). -/
abbrev Store (w : Nat) := List (Nat × BitVec w)

/-! ### CPU (R18-R27) -/

/-- The CPU's register file and hidden state (R18, R22, R25, R27). -/
structure Cpu where
  a : Byte
  x : Byte
  y : Byte
  sp : Byte
  pc : Word
  /-- The status byte, N V U B D I Z C from bit 7 down (R22). -/
  p : Byte
  /-- CPU cycles left before the next boundary (R25). -/
  budget : Nat
  nmiPending : Bool
  irqLine : Bool
  jammed : Bool
deriving DecidableEq, Repr

/-! ### PPU (R29-R34) -/

/-- One OAM entry's four bytes, as an entry of the secondary OAM `ppu.sec` (R33, R34). -/
structure Sprite where
  y : Byte
  tile : Byte
  attr : Byte
  x : Byte
deriving DecidableEq, Repr

/-- One sprite slot: its entry in `ppu.sec` and its two shift registers `ppu.sprPatLo`, `ppu.sprPatHi` (R33). -/
structure Slot where
  entry : Sprite
  patLo : Byte
  patHi : Byte
deriving DecidableEq, Repr

/-- The eight sprite slots (R33). -/
structure Slots where
  s0 : Slot
  s1 : Slot
  s2 : Slot
  s3 : Slot
  s4 : Slot
  s5 : Slot
  s6 : Slot
  s7 : Slot
deriving DecidableEq, Repr

/-- The PPU's registers, memories, latches and shifters (R29-R34). -/
structure Ppu where
  ctrl : Byte
  mask : Byte
  /-- Bits 7, 6 and 5; bits 4:0 are not stored (R31). -/
  status : Byte
  v : BitVec 15
  t : BitVec 15
  x : BitVec 3
  w : Bool
  oamAddr : Byte
  /-- OAM byte `4 n + k` is byte `k` of entry `n` (R34). -/
  oam : Store 8
  /-- Nametable byte `o` of table `T` has key `1024 T + o` (R33). -/
  nt : Store 8
  /-- The 32 palette entries of 6 bits (R33, R178). -/
  pal : Store 6
  readBuffer : Byte
  scanline : Nat
  dot : Nat
  oddFrame : Bool
  bgNextTile : Byte
  /-- Only bits 1:0 are used (R33). -/
  bgNextAttr : Byte
  bgNextLo : Byte
  bgNextHi : Byte
  bgPatLo : BitVec 16
  bgPatHi : BitVec 16
  bgAttrLo : BitVec 16
  bgAttrHi : BitVec 16
  slots : Slots
  spriteCount : Nat
  sprite0InLine : Bool
  nmiOut : Bool
  /-- The pixel at row `s`, column `x` has key `256 s + x` (R33). -/
  frame : Store 6
deriving DecidableEq, Repr

/-! ### APU (R35-R40) -/

/-- A down-counter `{period, counter}` (R35, R208). -/
structure Divider (w : Nat) where
  period : BitVec w
  counter : BitVec w
deriving DecidableEq, Repr

/-- A channel's length counter (R36, R211). -/
structure LengthCounter where
  enabled : Bool
  halt : Bool
  counter : Byte
deriving DecidableEq, Repr

/-- A volume envelope (R36, R212). -/
structure Envelope where
  restart : Bool
  loop : Bool
  counter : BitVec 4
  constantVolumeMode : Bool
  constantVolume : BitVec 4
  divider : Divider 4
deriving DecidableEq, Repr

/-- A pulse channel's sweep unit (R36, R213). `targetPeriod` is signed. -/
structure Sweep where
  subtractExtra : Bool
  enabled : Bool
  negate : Bool
  reload : Bool
  silenceChannel : Bool
  shiftCount : BitVec 3
  divider : Divider 3
  targetPeriod : Int
deriving DecidableEq, Repr

/-- A channel timer: a divider and its constant floor (R36, R209). -/
structure ApuTimer where
  divider : Divider 11
  minPeriod : BitVec 11
deriving DecidableEq, Repr

/-- The triangle's linear counter (R36, R216). -/
structure LinearCounter where
  counter : BitVec 7
  reloadValue : BitVec 7
  reloadFlag : Bool
  control : Bool
deriving DecidableEq, Repr

/-- A pulse channel (R37, R215). -/
structure Pulse where
  timer : ApuTimer
  length : LengthCounter
  envelope : Envelope
  sweep : Sweep
  duty : BitVec 2
  step : BitVec 3
deriving DecidableEq, Repr

/-- The triangle channel (R37, R216). -/
structure Triangle where
  timer : ApuTimer
  length : LengthCounter
  linear : LinearCounter
  step : BitVec 5
deriving DecidableEq, Repr

/-- The noise channel (R37, R217). `shift` is the LFSR. -/
structure Noise where
  timer : ApuTimer
  length : LengthCounter
  envelope : Envelope
  shift : BitVec 15
  mode : Bool
  periodIndex : BitVec 4
deriving DecidableEq, Repr

/-- `numSteps`, which is 4 or 5 (R38). -/
inductive SequenceMode where
  | fourStep
  | fiveStep
deriving DecidableEq, Repr

/-- The frame counter (R38, R219). -/
structure FrameCounter where
  cpuCycleCounter : Nat
  numSteps : SequenceMode
  inhibitInterrupt : Bool
  irqPending : Bool
deriving DecidableEq, Repr

/-- The APU (R36-R39). The DMC has no state (R218). -/
structure Apu where
  pulse1 : Pulse
  pulse2 : Pulse
  triangle : Triangle
  noise : Noise
  frame : FrameCounter
  halfCycle : Bool
  sampleAcc : Nat
  /-- Signed 16-bit samples not yet taken by the host, oldest first (R39). -/
  samples : List (BitVec 16)
deriving DecidableEq, Repr

/-! ### Bus arbiter (R41) and cartridge (R42) -/

/-- `dma.phase` (R41). -/
inductive DmaPhase where
  | read
  | write
deriving DecidableEq, Repr

/-- The OAM DMA engine (R41). -/
structure Dma where
  active : Bool
  page : Byte
  index : Nat
  wait : Nat
  phase : DmaPhase
  data : Byte
deriving DecidableEq, Repr

/-- The controller ports (R41): the strobe, and per port the shift register and the host's button byte. -/
structure Controllers where
  strobe : Bool
  shift0 : Byte
  shift1 : Byte
  state0 : Byte
  state1 : Byte
deriving DecidableEq, Repr

/-- The memories of the test cartridge of spec/95_test_vectors.md section 3.0: its ROM by CPU address, its CHR RAM by
PPU address. -/
structure Board where
  prg : Store 8
  chr : Store 8
deriving DecidableEq, Repr

/-- The cartridge CART (R49): none inserted (R50), the test cartridge of spec/95_test_vectors.md section 3.0, or any
other, known only through the OPEN functions of Sys2Proof/Config.lean over a coded state `cs`. -/
inductive Cart where
  | absent
  | board (memories : Board)
  | custom (cs : Nat)
deriving DecidableEq, Repr

/-- The machine. `params` is the choice of the parameters of R11; no step changes it. -/
structure State where
  cpu : Cpu
  ppu : Ppu
  apu : Apu
  dma : Dma
  ctrl : Controllers
  /-- Internal RAM, keys 0..2047 (R41, R45). -/
  ram : List Host.Cell
  cart : Cart
  /-- Master ticks since power-on (R41). -/
  tick : Nat
  /-- CPU-rate slots since power-on (R28). -/
  cpuCycles : Nat
  params : Params
deriving DecidableEq, Repr

/-! ### How a step can stop -/

/-- Why a run ends with outcome `fault` (R15, R249). -/
inductive Fault where
  /-- Raised by the twelve JAM opcodes under JAM_POLICY = `fault` only, before any state changes (R172). The spec gives
  this outcome, so the stop is exact; it is safe. -/
  | jam (opcode : Byte)
deriving DecidableEq, Repr

/-- Why the model gives a step or a host input no meaning, outcome `refuse` (R15, R249). -/
inductive Refusal where
  /-- Raised by an arm of `exec` whose instruction has no meaning yet. Safe: the run stops. No arm raises it now. -/
  | notModelled (mnemonic : String)
  /-- Raised by the opcodes $93 $9B $9C $9E $9F under SH_POLICY = `refuse` only (R166). The spec gives this outcome;
  safe. -/
  | unstableStore (opcode : Byte)
  /-- Raised by `step` in a state with an internal index out of range, which no run reaches (R9). The spec says that a
  model refuses it; safe. -/
  | inconsistentState
  /-- Raised by the host's `SetController` for a port other than 0 and 1 (R9, R244). The spec gives this outcome;
  safe. -/
  | badControllerPort (port : Nat)
deriving DecidableEq, Repr

/-! ### Power-on values (R269, R270) -/

/-- The CPU before the power-on `Reset()` (R18, R25, R27). -/
def Cpu.powerOn : Cpu where
  a := 0
  x := 0
  y := 0
  sp := 0
  pc := 0
  p := 0x20#8
  budget := 0
  nmiPending := false
  irqLine := false
  jammed := false

/-- A secondary OAM entry at power-on and when cleared: four bytes $FF (R33, R201). -/
def Sprite.blank : Sprite where
  y := 0xFF#8
  tile := 0xFF#8
  attr := 0xFF#8
  x := 0xFF#8

/-- A sprite slot at power-on (R33). -/
def Slot.powerOn : Slot where
  entry := Sprite.blank
  patLo := 0
  patHi := 0

/-- The sprite slots at power-on (R33). -/
def Slots.powerOn : Slots where
  s0 := Slot.powerOn
  s1 := Slot.powerOn
  s2 := Slot.powerOn
  s3 := Slot.powerOn
  s4 := Slot.powerOn
  s5 := Slot.powerOn
  s6 := Slot.powerOn
  s7 := Slot.powerOn

/-- The PPU at power-on: position (261, 0), `sec` all $FF, everything else 0 (R29-R33). -/
def Ppu.powerOn : Ppu where
  ctrl := 0
  mask := 0
  status := 0
  v := 0
  t := 0
  x := 0
  w := false
  oamAddr := 0
  oam := []
  nt := []
  pal := []
  readBuffer := 0
  scanline := 261
  dot := 0
  oddFrame := false
  bgNextTile := 0
  bgNextAttr := 0
  bgNextLo := 0
  bgNextHi := 0
  bgPatLo := 0
  bgPatHi := 0
  bgAttrLo := 0
  bgAttrHi := 0
  slots := Slots.powerOn
  spriteCount := 0
  sprite0InLine := false
  nmiOut := false
  frame := []

/-- A length counter at power-on (R40). -/
def LengthCounter.powerOn : LengthCounter where
  enabled := false
  halt := false
  counter := 0

/-- An envelope at power-on (R40). -/
def Envelope.powerOn : Envelope where
  restart := false
  loop := false
  counter := 0
  constantVolumeMode := false
  constantVolume := 0
  divider := { period := 0, counter := 0 }

/-- A sweep unit at power-on; only `subtractExtra` differs between the two pulses (R37, R40). -/
def Sweep.powerOn (subtractExtra : Bool) : Sweep where
  subtractExtra := subtractExtra
  enabled := false
  negate := false
  reload := false
  silenceChannel := false
  shiftCount := 0
  divider := { period := 0, counter := 0 }
  targetPeriod := 0

/-- A timer at power-on with its constant floor (R37, R40). -/
def ApuTimer.powerOn (minPeriod : BitVec 11) : ApuTimer where
  divider := { period := 0, counter := 0 }
  minPeriod := minPeriod

/-- A pulse channel at power-on (R37, R40). -/
def Pulse.powerOn (subtractExtra : Bool) : Pulse where
  timer := ApuTimer.powerOn 8
  length := LengthCounter.powerOn
  envelope := Envelope.powerOn
  sweep := Sweep.powerOn subtractExtra
  duty := 0
  step := 0

/-- The triangle at power-on (R37, R40). -/
def Triangle.powerOn : Triangle where
  timer := ApuTimer.powerOn 2
  length := LengthCounter.powerOn
  linear := { counter := 0, reloadValue := 0, reloadFlag := false, control := false }
  step := 0

/-- The noise channel at power-on: its LFSR is 1 (R37, R40). -/
def Noise.powerOn : Noise where
  timer := ApuTimer.powerOn 0
  length := LengthCounter.powerOn
  envelope := Envelope.powerOn
  shift := 1
  mode := false
  periodIndex := 0

/-- The APU at power-on (R40). -/
def Apu.powerOn : Apu where
  pulse1 := Pulse.powerOn true
  pulse2 := Pulse.powerOn false
  triangle := Triangle.powerOn
  noise := Noise.powerOn
  frame := { cpuCycleCounter := 0, numSteps := .fourStep, inhibitInterrupt := false, irqPending := false }
  halfCycle := false
  sampleAcc := 0
  samples := []

/-- The DMA engine at power-on (R41). -/
def Dma.powerOn : Dma where
  active := false
  page := 0
  index := 0
  wait := 0
  phase := .read
  data := 0

/-- The controller ports at power-on, with the button bytes the host last set (R41, R269). -/
def Controllers.powerOn (state0 state1 : Byte) : Controllers where
  strobe := false
  shift0 := 0
  shift1 := 0
  state0 := state0
  state1 := state1

/-- The machine right after power-on with no cartridge and no button pressed (R269, R270, R272): the CPU's `Reset()`
has run once and read the reset vector as 0 (R50, R51). -/
def State.reset : State where
  cpu := { Cpu.powerOn with sp := 0xFD#8, p := 0x24#8, budget := 7 }
  ppu := Ppu.powerOn
  apu := Apu.powerOn
  dma := Dma.powerOn
  ctrl := Controllers.powerOn 0 0
  ram := []
  cart := .absent
  tick := 0
  cpuCycles := 0
  params := Config.params

end Sys2Proof.Machine
end

