-- ==== Sys2Proof/Machine/Apu.lean ====
section
/-! DEFINITION. The APU's building blocks, its four channels, its frame counter and its registers (spec/48_apu.md
R208-R232). Every operation works on the APU alone. -/

namespace Sys2Proof.Machine

/-! ### Building blocks (R208-R214) -/

/-- A divider's clock: whether it pulses, and the divider after it (R208). -/
def Divider.clock {w : Nat} (d : Divider w) : Bool × Divider w :=
  if d.counter = 0 then (true, { d with counter := d.period }) else (false, { d with counter := d.counter - 1 })

/-- A divider's reload, with no pulse (R208). -/
def Divider.reload {w : Nat} (d : Divider w) : Divider w := { d with counter := d.period }

/-- A timer's clock: below its floor nothing moves (R209). -/
def ApuTimer.clock (t : ApuTimer) : Bool × ApuTimer :=
  if t.divider.period < t.minPeriod then (false, t)
  else (t.divider.clock.1, { t with divider := t.divider.clock.2 })

/-- The timer with another period; its counter is not changed (R208, R224, R225). -/
def ApuTimer.withPeriod (t : ApuTimer) (period : BitVec 11) : ApuTimer :=
  { t with divider := { t.divider with period := period } }

/-- The length-counter load table `LENGTH` (R210). -/
def lengthTable : List Nat :=
  [10, 254, 20, 2, 40, 4, 80, 6, 160, 8, 60, 10, 14, 12, 26, 14,
   12, 16, 24, 18, 48, 20, 96, 22, 192, 24, 72, 26, 16, 28, 32, 30]

/-- `LENGTH[i]` (R210). -/
def lengthEntry (i : BitVec 5) : Byte := BitVec.ofNat 8 (lengthTable.getD i.toNat 0)

/-- `Load(i)`: lost while the channel is disabled (R211). -/
def LengthCounter.load (l : LengthCounter) (i : BitVec 5) : LengthCounter :=
  if l.enabled then { l with counter := lengthEntry i } else l

/-- `SetEnabled(e)`: disabling clears the counter (R211). -/
def LengthCounter.setEnabled (l : LengthCounter) (e : Bool) : LengthCounter :=
  { l with enabled := e, counter := if e then l.counter else 0 }

/-- A half-frame clock of a length counter (R211). -/
def LengthCounter.clock (l : LengthCounter) : LengthCounter :=
  if !l.halt && l.counter != 0 then { l with counter := l.counter - 1 } else l

/-- A quarter-frame clock of an envelope (R212). -/
def Envelope.clock (e : Envelope) : Envelope :=
  if e.restart then { e with restart := false, counter := 15, divider := e.divider.reload }
  else
    { e with
      divider := e.divider.clock.2
      counter :=
        if !e.divider.clock.1 then e.counter
        else if e.counter != 0 then e.counter - 1
        else if e.loop then 15 else 0 }

/-- An envelope's output (R212). -/
def Envelope.output (e : Envelope) : Nat :=
  if e.constantVolumeMode then e.constantVolume.toNat else e.counter.toNat

/-- The signed sweep target for timer period `period` (R213). -/
def sweepTarget (s : Sweep) (period : BitVec 11) : Int :=
  let change : Nat := (period >>> s.shiftCount.toNat).toNat
  if s.negate then (period.toNat : Int) - change - (if s.subtractExtra then 1 else 0)
  else period.toNat + change

/-- The target and the silence of a sweep unit, recomputed (R213). -/
def Sweep.recompute (s : Sweep) (period : BitVec 11) : Sweep :=
  { s with
    targetPeriod := sweepTarget s period
    silenceChannel := decide (period < 8#11) || decide (0x7FF < sweepTarget s period) }

/-- A sweep unit after the divider part of its half-frame clock (R214). -/
def Sweep.clock (s : Sweep) : Sweep :=
  if s.reload then { s with divider := s.divider.clock.2.reload, reload := false }
  else { s with divider := s.divider.clock.2 }

/-- The sweep unit writes its target into the timer at this half-frame clock (R214). -/
def Sweep.writesPeriod (s : Sweep) : Bool :=
  s.divider.clock.1 && s.enabled && s.shiftCount != 0 && !s.silenceChannel

/-! ### Channels (R215-R217) -/

/-- A half-frame clock of a pulse channel's sweep (R214): the target computed at the start of the cycle is kept to the
period's 11 bits. -/
def Pulse.clockSweep (c : Pulse) : Pulse :=
  { c with
    timer := if c.sweep.writesPeriod then c.timer.withPeriod (BitVec.ofInt 11 c.sweep.targetPeriod) else c.timer
    sweep := c.sweep.clock }

/-- A clock of a pulse channel's timer: a pulse moves the duty sequencer down (R215). -/
def Pulse.clockTimer (c : Pulse) : Pulse :=
  { c with timer := c.timer.clock.2, step := if c.timer.clock.1 then c.step - 1 else c.step }

/-- The duty table `DUTY`, one row of eight bits per duty (R215). -/
def dutyTable : List (List Bool) :=
  [[false, true, false, false, false, false, false, false],
   [false, true, true, false, false, false, false, false],
   [false, true, true, true, true, false, false, false],
   [true, false, false, true, true, true, true, true]]

/-- `DUTY[duty][step]` (R215). -/
def dutyBit (duty : BitVec 2) (step : BitVec 3) : Bool := (dutyTable.getD duty.toNat []).getD step.toNat false

/-- A pulse channel's `GetValue()` (R215). -/
def Pulse.value (c : Pulse) : Nat :=
  if c.length.counter = 0 ∨ c.sweep.silenceChannel = true ∨ dutyBit c.duty c.step = false then 0
  else c.envelope.output

/-- `TRI[i]`: 15 down to 0, then 0 up to 15 (R216). -/
def triangleEntry (i : BitVec 5) : Nat := if i.toNat < 16 then 15 - i.toNat else i.toNat - 16

/-- A quarter-frame clock of the linear counter (R216). -/
def LinearCounter.clock (l : LinearCounter) : LinearCounter :=
  { l with
    counter := if l.reloadFlag then l.reloadValue else if l.counter != 0 then l.counter - 1 else 0
    reloadFlag := l.reloadFlag && l.control }

/-- A clock of the triangle's timer: a pulse moves the sequencer while both counters run (R216). -/
def Triangle.clockTimer (c : Triangle) : Triangle :=
  { c with
    timer := c.timer.clock.2
    step := if c.timer.clock.1 && c.length.counter != 0 && c.linear.counter != 0 then c.step + 1 else c.step }

/-- The triangle's `GetValue()` (R216). -/
def Triangle.value (c : Triangle) : Nat :=
  if c.length.counter = 0 ∨ c.linear.counter = 0 then 0 else triangleEntry c.step

/-- The period table `NOISE`, in CPU cycles (R217). -/
def noiseTable : List Nat :=
  [4, 8, 16, 32, 64, 96, 128, 160, 202, 254, 380, 508, 762, 1016, 2034, 4068]

/-- The timer period of a noise period index: `NOISE[i] / 2 - 1` (R217). -/
def noisePeriod (i : BitVec 4) : BitVec 11 := BitVec.ofNat 11 (noiseTable.getD i.toNat 4 / 2 - 1)

/-- One clock of the LFSR (R217). -/
def lfsrNext (mode : Bool) (shift : BitVec 15) : BitVec 15 :=
  let feedback := shift.getLsbD 0 ^^ (if mode then shift.getLsbD 6 else shift.getLsbD 1)
  (shift >>> 1) ||| (if feedback then 0x4000#15 else 0)

/-- A clock of the noise timer: a pulse clocks the LFSR (R217). -/
def Noise.clockTimer (c : Noise) : Noise :=
  { c with timer := c.timer.clock.2, shift := if c.timer.clock.1 then lfsrNext c.mode c.shift else c.shift }

/-- The noise channel's `GetValue()` (R217). -/
def Noise.value (c : Noise) : Nat :=
  if c.length.counter = 0 ∨ c.shift.getLsbD 0 = true then 0 else c.envelope.output

/-! ### Frame counter (R219, R220) -/

/-- The number of CPU cycles in a sequence (R219). -/
def sequenceLength : SequenceMode → Nat
  | .fourStep => 29830
  | .fiveStep => 37282

/-- The counts at which a quarter-frame clock comes (R219). -/
def isQuarter : SequenceMode → Nat → Bool
  | .fourStep, n => n == 7457 || n == 14913 || n == 22371 || n == 29829
  | .fiveStep, n => n == 7457 || n == 14913 || n == 22371 || n == 37281

/-- The counts at which a half-frame clock comes (R219). -/
def isHalf : SequenceMode → Nat → Bool
  | .fourStep, n => n == 14913 || n == 29829
  | .fiveStep, n => n == 14913 || n == 37281

/-- The counts at which the frame IRQ is set (R219). -/
def setsIrq : SequenceMode → Nat → Bool
  | .fourStep, n => n == 29828 || n == 29829 || n == 29830
  | .fiveStep, _ => false

/-- The frame counter's own part of one CPU cycle (R219). -/
def FrameCounter.advance (f : FrameCounter) : FrameCounter :=
  let n := f.cpuCycleCounter + 1
  { f with
    cpuCycleCounter := if n = sequenceLength f.numSteps then 0 else n
    irqPending := f.irqPending || (setsIrq f.numSteps n && !f.inhibitInterrupt) }

/-- A quarter-frame clock: the three envelopes and the linear counter (R219). -/
def quarterFrame (a : Apu) : Apu :=
  { a with
    pulse1 := { a.pulse1 with envelope := a.pulse1.envelope.clock }
    pulse2 := { a.pulse2 with envelope := a.pulse2.envelope.clock }
    noise := { a.noise with envelope := a.noise.envelope.clock }
    triangle := { a.triangle with linear := a.triangle.linear.clock } }

/-- A half-frame clock: the four length counters and the two sweeps (R219). -/
def halfFrame (a : Apu) : Apu :=
  { a with
    pulse1 := { a.pulse1.clockSweep with length := a.pulse1.length.clock }
    pulse2 := { a.pulse2.clockSweep with length := a.pulse2.length.clock }
    noise := { a.noise with length := a.noise.length.clock }
    triangle := { a.triangle with length := a.triangle.length.clock } }

/-- One CPU cycle of the frame counter with its clocks, the quarter-frame work first (R219). -/
def frameCycle (a : Apu) : Apu :=
  let n := a.frame.cpuCycleCounter + 1
  let mode := a.frame.numSteps
  let a := { a with frame := a.frame.advance }
  let a := if isQuarter mode n then quarterFrame a else a
  if isHalf mode n then halfFrame a else a

/-! ### Registers (R220-R232) -/

/-- $4017 write: the frame counter (R220). -/
def writeFrameCounter (a : Apu) (d : Byte) : Apu :=
  let five := d.getLsbD 7
  let inhibit := d.getLsbD 6
  let a := { a with
    frame :=
      { cpuCycleCounter := 0
        numSteps := if five then .fiveStep else .fourStep
        inhibitInterrupt := inhibit
        irqPending := if inhibit then false else a.frame.irqPending } }
  if five then halfFrame (quarterFrame a) else a

/-- The envelope after a control write: loop, constant-volume mode and volume (R222, R228). -/
def Envelope.control (e : Envelope) (d : Byte) : Envelope :=
  { e with
    loop := d.getLsbD 5
    constantVolumeMode := d.getLsbD 4
    constantVolume := d.setWidth 4
    divider := { e.divider with period := d.setWidth 4 } }

/-- $4000 / $4004 (R222). -/
def writePulseControl (c : Pulse) (d : Byte) : Pulse :=
  { c with
    duty := (d >>> 6).setWidth 2
    length := { c.length with halt := d.getLsbD 5 }
    envelope := c.envelope.control d }

/-- $4001 / $4005 (R223). -/
def writePulseSweep (c : Pulse) (d : Byte) : Pulse :=
  { c with
    sweep := { c.sweep with
      enabled := d.getLsbD 7
      divider := { c.sweep.divider with period := (d >>> 4).setWidth 3 }
      negate := d.getLsbD 3
      shiftCount := d.setWidth 3
      reload := true } }

/-- The period with its low eight bits replaced (R224). -/
def periodWithLow (period : BitVec 11) (d : Byte) : BitVec 11 := (period &&& 0x700#11) ||| d.setWidth 11

/-- The period with its high three bits replaced (R225, R227). -/
def periodWithHigh (period : BitVec 11) (d : Byte) : BitVec 11 :=
  (period &&& 0x0FF#11) ||| ((d &&& 7#8).setWidth 11 <<< 8)

/-- The length index of a channel's last register: bits 7:3 (R225, R227, R230). -/
def lengthIndex (d : Byte) : BitVec 5 := (d >>> 3).setWidth 5

/-- A timer-low write (R224). -/
def ApuTimer.writeLow (t : ApuTimer) (d : Byte) : ApuTimer := t.withPeriod (periodWithLow t.divider.period d)

/-- A timer-high write (R225, R227). -/
def ApuTimer.writeHigh (t : ApuTimer) (d : Byte) : ApuTimer := t.withPeriod (periodWithHigh t.divider.period d)

/-- $4003 / $4007 (R225). -/
def writePulseLength (c : Pulse) (d : Byte) : Pulse :=
  { c with
    timer := c.timer.writeHigh d
    length := c.length.load (lengthIndex d)
    step := 0
    envelope := { c.envelope with restart := true } }

/-- $4008 (R226). -/
def writeTriangleLinear (c : Triangle) (d : Byte) : Triangle :=
  { c with
    linear := { c.linear with control := d.getLsbD 7, reloadValue := d.setWidth 7 }
    length := { c.length with halt := d.getLsbD 7 } }

/-- $400B (R227). -/
def writeTriangleLength (c : Triangle) (d : Byte) : Triangle :=
  { c with
    timer := c.timer.writeHigh d
    length := c.length.load (lengthIndex d)
    linear := { c.linear with reloadFlag := true } }

/-- $400C (R228). -/
def writeNoiseControl (c : Noise) (d : Byte) : Noise :=
  { c with length := { c.length with halt := d.getLsbD 5 }, envelope := c.envelope.control d }

/-- $400E (R229). -/
def writeNoisePeriod (c : Noise) (d : Byte) : Noise :=
  { c with mode := d.getLsbD 7, periodIndex := d.setWidth 4, timer := c.timer.withPeriod (noisePeriod (d.setWidth 4)) }

/-- $400F (R230). -/
def writeNoiseLength (c : Noise) (d : Byte) : Noise :=
  { c with length := c.length.load (lengthIndex d), envelope := { c.envelope with restart := true } }

/-- $4015 write: the channel enables (R231). -/
def writeEnables (a : Apu) (d : Byte) : Apu :=
  { a with
    pulse1 := { a.pulse1 with length := a.pulse1.length.setEnabled (d.getLsbD 0) }
    pulse2 := { a.pulse2 with length := a.pulse2.length.setEnabled (d.getLsbD 1) }
    triangle := { a.triangle with length := a.triangle.length.setEnabled (d.getLsbD 2) }
    noise := { a.noise with length := a.noise.length.setEnabled (d.getLsbD 3) } }

/-- A CPU write to an APU register, by its number 0..23 from $4000 (R221). Numbers 9 and 13 have no register, 16 to 19
are the DMC's (R218), 20 and 22 are no APU registers: all change nothing. -/
def apuRegWrite (a : Apu) (r : Nat) (d : Byte) : Apu :=
  match r with
  | 0 => { a with pulse1 := writePulseControl a.pulse1 d }
  | 1 => { a with pulse1 := writePulseSweep a.pulse1 d }
  | 2 => { a with pulse1 := { a.pulse1 with timer := a.pulse1.timer.writeLow d } }
  | 3 => { a with pulse1 := writePulseLength a.pulse1 d }
  | 4 => { a with pulse2 := writePulseControl a.pulse2 d }
  | 5 => { a with pulse2 := writePulseSweep a.pulse2 d }
  | 6 => { a with pulse2 := { a.pulse2 with timer := a.pulse2.timer.writeLow d } }
  | 7 => { a with pulse2 := writePulseLength a.pulse2 d }
  | 8 => { a with triangle := writeTriangleLinear a.triangle d }
  | 10 => { a with triangle := { a.triangle with timer := a.triangle.timer.writeLow d } }
  | 11 => { a with triangle := writeTriangleLength a.triangle d }
  | 12 => { a with noise := writeNoiseControl a.noise d }
  | 14 => { a with noise := writeNoisePeriod a.noise d }
  | 15 => { a with noise := writeNoiseLength a.noise d }
  | 21 => writeEnables a d
  | 23 => writeFrameCounter a d
  | _ => a

/-- One bit of the $4015 status byte. -/
def statusBit (on : Bool) (bit : Byte) : Byte := if on then bit else 0

/-- The value of a $4015 read (R232). -/
def apuStatus (a : Apu) : Byte :=
  statusBit (a.pulse1.length.counter != 0) 0x01#8 ||| statusBit (a.pulse2.length.counter != 0) 0x02#8 |||
  statusBit (a.triangle.length.counter != 0) 0x04#8 ||| statusBit (a.noise.length.counter != 0) 0x08#8 |||
  statusBit a.frame.irqPending 0x40#8

/-- The side effect of a $4015 read (R232). -/
def clearFrameIrq (a : Apu) : Apu := { a with frame := { a.frame with irqPending := false } }

end Sys2Proof.Machine
end

