-- ==== Sys2Proof/Machine/ApuClock.lean ====
section
/-! DEFINITION. The APU's clock, the mixer and the sample clock (spec/48_apu.md R233-R237). -/

namespace Sys2Proof.Machine

/-! ### Mixer (R234-R236) -/

/-- An exact fraction, so that no rounding enters (R234, D35). -/
structure Ratio where
  num : Int
  den : Int
deriving DecidableEq, Repr

/-- `pulseTable[n]` as a fraction: 95.52 n / (8128 + 100 n), over 100 (R234). -/
def pulseTable (n : Nat) : Ratio where
  num := 9552 * n
  den := 812800 + 10000 * n

/-- `tndTable[n]` as a fraction: 163.67 n / (24329 + 100 n), over 100 (R234). -/
def tndTable (n : Nat) : Ratio where
  num := 16367 * n
  den := 2432900 + 10000 * n

/-- `pulseOut` from the two pulse values (R234, R235). -/
def pulseOut (mode : MixMode) (p1 p2 : Nat) : Ratio :=
  match mode with
  | .table => pulseTable (p1 + p2)
  | .linear => { num := 752 * (p1 + p2), den := 100000 }

/-- `tndOut` from the triangle and noise values, the DMC's being 0 (R218, R234, R235). -/
def tndOut (mode : MixMode) (t nz : Nat) : Ratio :=
  match mode with
  | .table => tndTable (3 * t + 2 * nz)
  | .linear => { num := 851 * t + 494 * nz, den := 100000 }

/-- `clamp(n, -32768, 32767)` (R236). -/
def clampSample (n : Int) : Int := max (-32768) (min n 32767)

/-- The output sample as an integer: `trunc((2 (pulseOut + tndOut) - 1) * 32768)`, clamped (R236). -/
def sampleInt (mode : MixMode) (p1 p2 t nz : Nat) : Int :=
  let p := pulseOut mode p1 p2
  let q := tndOut mode t nz
  clampSample (Int.tdiv (65536 * (p.num * q.den + q.num * p.den) - 32768 * (p.den * q.den)) (p.den * q.den))

/-- The sample the APU puts out at this tick (R236, R237). -/
def currentSample (mode : MixMode) (a : Apu) : BitVec 16 :=
  BitVec.ofInt 16 (sampleInt mode a.pulse1.value a.pulse2.value a.triangle.value a.noise.value)

/-! ### Clocks (R233, R237) -/

/-- The master-tick rate in Hz (R237). -/
def masterRate : Nat := 5360490

/-- The sample clock: the accumulator gains SAMPLE_RATE, and one sample is put out for each master-tick rate in it
(R237). -/
def sampleClock (k : Params) (a : Apu) : Apu :=
  let acc := a.sampleAcc + k.sampleRate
  { a with
    sampleAcc := acc % masterRate
    samples := a.samples ++ List.replicate (acc / masterRate) (currentSample k.mixMode a) }

/-- R233 step (1): both sweep units recomputed. -/
def recomputeSweeps (a : Apu) : Apu :=
  { a with
    pulse1 := { a.pulse1 with sweep := a.pulse1.sweep.recompute a.pulse1.timer.divider.period }
    pulse2 := { a.pulse2 with sweep := a.pulse2.sweep.recompute a.pulse2.timer.divider.period } }

/-- R233 steps (3) and (4): the triangle's timer on every CPU cycle, the other three on every second one. -/
def clockTimers (a : Apu) : Apu :=
  let a := { a with triangle := a.triangle.clockTimer }
  if a.halfCycle then
    { a with pulse1 := a.pulse1.clockTimer, pulse2 := a.pulse2.clockTimer, noise := a.noise.clockTimer }
  else a

/-- The APU's work on a tick that is a CPU cycle, steps (1) to (5) of R233. -/
def apuCycle (a : Apu) : Apu :=
  let a := clockTimers (frameCycle (recomputeSweeps a))
  { a with halfCycle := !a.halfCycle }

/-- One APU `Clock()` (R233). -/
def apuClock (k : Params) (cpuCycle : Bool) (a : Apu) : Apu := sampleClock k (if cpuCycle then apuCycle a else a)

end Sys2Proof.Machine
end

