-- ==== Sys2Proof/Syntax.lean ====
section
/-! DEFINITION. The instructions: one constructor per row of spec/opcode_table.json (R63, R67), those
with an operand first (the compiler bounds the number of a constructor that has fields), each part in opcode order.
A name is the row's mnemonic followed by its addressing mode (none for the implied and relative modes); where one
mnemonic has several opcodes in one mode, the undocumented ones carry their opcode byte. The argument is the operand
as R66 assembles it: a byte, or the little-endian word of the two operand bytes. -/

namespace Sys2Proof

/-- The 256 instructions of the core (R67, R68): every opcode byte is one constructor. -/
inductive Instr where
  | oraIzx (zp : Byte)  -- $01 ORA ($nn,X) (R108, R86)
  | sloIzx (zp : Byte)  -- $03 SLO ($nn,X) (R151, R86)
  | nopZp04 (zp : Byte)  -- $04 NOP $nn (R171, R79)
  | oraZp (zp : Byte)  -- $05 ORA $nn (R108, R79)
  | aslZp (zp : Byte)  -- $06 ASL $nn (R114, R79)
  | sloZp (zp : Byte)  -- $07 SLO $nn (R151, R79)
  | oraImm (imm : Byte)  -- $09 ORA #$nn (R108, R78)
  | ancImm0B (imm : Byte)  -- $0B ANC #$nn (R159, R78)
  | nopAbs (addr : Word)  -- $0C NOP $hhll (R171, R82)
  | oraAbs (addr : Word)  -- $0D ORA $hhll (R108, R82)
  | aslAbs (addr : Word)  -- $0E ASL $hhll (R114, R82)
  | sloAbs (addr : Word)  -- $0F SLO $hhll (R151, R82)
  | bpl (off : Byte)  -- $10 BPL label (R130, R88)
  | oraIzy (zp : Byte)  -- $11 ORA ($nn),Y (R108, R87)
  | sloIzy (zp : Byte)  -- $13 SLO ($nn),Y (R151, R87)
  | nopZpx14 (zp : Byte)  -- $14 NOP $nn,X (R171, R80)
  | oraZpx (zp : Byte)  -- $15 ORA $nn,X (R108, R80)
  | aslZpx (zp : Byte)  -- $16 ASL $nn,X (R114, R80)
  | sloZpx (zp : Byte)  -- $17 SLO $nn,X (R151, R80)
  | oraAby (base : Word)  -- $19 ORA $hhll,Y (R108, R84)
  | sloAby (base : Word)  -- $1B SLO $hhll,Y (R151, R84)
  | nopAbx1C (base : Word)  -- $1C NOP $hhll,X (R171, R83)
  | oraAbx (base : Word)  -- $1D ORA $hhll,X (R108, R83)
  | aslAbx (base : Word)  -- $1E ASL $hhll,X (R114, R83)
  | sloAbx (base : Word)  -- $1F SLO $hhll,X (R151, R83)
  | jsrAbs (addr : Word)  -- $20 JSR $hhll (R134, R82)
  | andIzx (zp : Byte)  -- $21 AND ($nn,X) (R107, R86)
  | rlaIzx (zp : Byte)  -- $23 RLA ($nn,X) (R152, R86)
  | bitZp (zp : Byte)  -- $24 BIT $nn (R113, R79)
  | andZp (zp : Byte)  -- $25 AND $nn (R107, R79)
  | rolZp (zp : Byte)  -- $26 ROL $nn (R116, R79)
  | rlaZp (zp : Byte)  -- $27 RLA $nn (R152, R79)
  | andImm (imm : Byte)  -- $29 AND #$nn (R107, R78)
  | ancImm2B (imm : Byte)  -- $2B ANC #$nn (R159, R78)
  | bitAbs (addr : Word)  -- $2C BIT $hhll (R113, R82)
  | andAbs (addr : Word)  -- $2D AND $hhll (R107, R82)
  | rolAbs (addr : Word)  -- $2E ROL $hhll (R116, R82)
  | rlaAbs (addr : Word)  -- $2F RLA $hhll (R152, R82)
  | bmi (off : Byte)  -- $30 BMI label (R129, R88)
  | andIzy (zp : Byte)  -- $31 AND ($nn),Y (R107, R87)
  | rlaIzy (zp : Byte)  -- $33 RLA ($nn),Y (R152, R87)
  | nopZpx34 (zp : Byte)  -- $34 NOP $nn,X (R171, R80)
  | andZpx (zp : Byte)  -- $35 AND $nn,X (R107, R80)
  | rolZpx (zp : Byte)  -- $36 ROL $nn,X (R116, R80)
  | rlaZpx (zp : Byte)  -- $37 RLA $nn,X (R152, R80)
  | andAby (base : Word)  -- $39 AND $hhll,Y (R107, R84)
  | rlaAby (base : Word)  -- $3B RLA $hhll,Y (R152, R84)
  | nopAbx3C (base : Word)  -- $3C NOP $hhll,X (R171, R83)
  | andAbx (base : Word)  -- $3D AND $hhll,X (R107, R83)
  | rolAbx (base : Word)  -- $3E ROL $hhll,X (R116, R83)
  | rlaAbx (base : Word)  -- $3F RLA $hhll,X (R152, R83)
  | eorIzx (zp : Byte)  -- $41 EOR ($nn,X) (R109, R86)
  | sreIzx (zp : Byte)  -- $43 SRE ($nn,X) (R153, R86)
  | nopZp44 (zp : Byte)  -- $44 NOP $nn (R171, R79)
  | eorZp (zp : Byte)  -- $45 EOR $nn (R109, R79)
  | lsrZp (zp : Byte)  -- $46 LSR $nn (R115, R79)
  | sreZp (zp : Byte)  -- $47 SRE $nn (R153, R79)
  | eorImm (imm : Byte)  -- $49 EOR #$nn (R109, R78)
  | alrImm (imm : Byte)  -- $4B ALR #$nn (R160, R78)
  | jmpAbs (addr : Word)  -- $4C JMP $hhll (R133, R82)
  | eorAbs (addr : Word)  -- $4D EOR $hhll (R109, R82)
  | lsrAbs (addr : Word)  -- $4E LSR $hhll (R115, R82)
  | sreAbs (addr : Word)  -- $4F SRE $hhll (R153, R82)
  | bvc (off : Byte)  -- $50 BVC label (R131, R88)
  | eorIzy (zp : Byte)  -- $51 EOR ($nn),Y (R109, R87)
  | sreIzy (zp : Byte)  -- $53 SRE ($nn),Y (R153, R87)
  | nopZpx54 (zp : Byte)  -- $54 NOP $nn,X (R171, R80)
  | eorZpx (zp : Byte)  -- $55 EOR $nn,X (R109, R80)
  | lsrZpx (zp : Byte)  -- $56 LSR $nn,X (R115, R80)
  | sreZpx (zp : Byte)  -- $57 SRE $nn,X (R153, R80)
  | eorAby (base : Word)  -- $59 EOR $hhll,Y (R109, R84)
  | sreAby (base : Word)  -- $5B SRE $hhll,Y (R153, R84)
  | nopAbx5C (base : Word)  -- $5C NOP $hhll,X (R171, R83)
  | eorAbx (base : Word)  -- $5D EOR $hhll,X (R109, R83)
  | lsrAbx (base : Word)  -- $5E LSR $hhll,X (R115, R83)
  | sreAbx (base : Word)  -- $5F SRE $hhll,X (R153, R83)
  | adcIzx (zp : Byte)  -- $61 ADC ($nn,X) (R105, R86)
  | rraIzx (zp : Byte)  -- $63 RRA ($nn,X) (R154, R86)
  | nopZp64 (zp : Byte)  -- $64 NOP $nn (R171, R79)
  | adcZp (zp : Byte)  -- $65 ADC $nn (R105, R79)
  | rorZp (zp : Byte)  -- $66 ROR $nn (R117, R79)
  | rraZp (zp : Byte)  -- $67 RRA $nn (R154, R79)
  | adcImm (imm : Byte)  -- $69 ADC #$nn (R105, R78)
  | arrImm (imm : Byte)  -- $6B ARR #$nn (R161, R78)
  | jmpInd (ptr : Word)  -- $6C JMP ($hhll) (R133, R85)
  | adcAbs (addr : Word)  -- $6D ADC $hhll (R105, R82)
  | rorAbs (addr : Word)  -- $6E ROR $hhll (R117, R82)
  | rraAbs (addr : Word)  -- $6F RRA $hhll (R154, R82)
  | bvs (off : Byte)  -- $70 BVS label (R132, R88)
  | adcIzy (zp : Byte)  -- $71 ADC ($nn),Y (R105, R87)
  | rraIzy (zp : Byte)  -- $73 RRA ($nn),Y (R154, R87)
  | nopZpx74 (zp : Byte)  -- $74 NOP $nn,X (R171, R80)
  | adcZpx (zp : Byte)  -- $75 ADC $nn,X (R105, R80)
  | rorZpx (zp : Byte)  -- $76 ROR $nn,X (R117, R80)
  | rraZpx (zp : Byte)  -- $77 RRA $nn,X (R154, R80)
  | adcAby (base : Word)  -- $79 ADC $hhll,Y (R105, R84)
  | rraAby (base : Word)  -- $7B RRA $hhll,Y (R154, R84)
  | nopAbx7C (base : Word)  -- $7C NOP $hhll,X (R171, R83)
  | adcAbx (base : Word)  -- $7D ADC $hhll,X (R105, R83)
  | rorAbx (base : Word)  -- $7E ROR $hhll,X (R117, R83)
  | rraAbx (base : Word)  -- $7F RRA $hhll,X (R154, R83)
  | nopImm80 (imm : Byte)  -- $80 NOP #$nn (R171, R78)
  | staIzx (zp : Byte)  -- $81 STA ($nn,X) (R92, R86)
  | nopImm82 (imm : Byte)  -- $82 NOP #$nn (R171, R78)
  | saxIzx (zp : Byte)  -- $83 SAX ($nn,X) (R157, R86)
  | styZp (zp : Byte)  -- $84 STY $nn (R94, R79)
  | staZp (zp : Byte)  -- $85 STA $nn (R92, R79)
  | stxZp (zp : Byte)  -- $86 STX $nn (R93, R79)
  | saxZp (zp : Byte)  -- $87 SAX $nn (R157, R79)
  | nopImm89 (imm : Byte)  -- $89 NOP #$nn (R171, R78)
  | xaaImm (imm : Byte)  -- $8B XAA #$nn (R163, R78)
  | styAbs (addr : Word)  -- $8C STY $hhll (R94, R82)
  | staAbs (addr : Word)  -- $8D STA $hhll (R92, R82)
  | stxAbs (addr : Word)  -- $8E STX $hhll (R93, R82)
  | saxAbs (addr : Word)  -- $8F SAX $hhll (R157, R82)
  | bcc (off : Byte)  -- $90 BCC label (R125, R88)
  | staIzy (zp : Byte)  -- $91 STA ($nn),Y (R92, R87)
  | ahxIzy (zp : Byte)  -- $93 AHX ($nn),Y (R167, R87)
  | styZpx (zp : Byte)  -- $94 STY $nn,X (R94, R80)
  | staZpx (zp : Byte)  -- $95 STA $nn,X (R92, R80)
  | stxZpy (zp : Byte)  -- $96 STX $nn,Y (R93, R81)
  | saxZpy (zp : Byte)  -- $97 SAX $nn,Y (R157, R81)
  | staAby (base : Word)  -- $99 STA $hhll,Y (R92, R84)
  | tasAby (base : Word)  -- $9B TAS $hhll,Y (R170, R84)
  | shyAbx (base : Word)  -- $9C SHY $hhll,X (R169, R83)
  | staAbx (base : Word)  -- $9D STA $hhll,X (R92, R83)
  | shxAby (base : Word)  -- $9E SHX $hhll,Y (R168, R84)
  | ahxAby (base : Word)  -- $9F AHX $hhll,Y (R167, R84)
  | ldyImm (imm : Byte)  -- $A0 LDY #$nn (R91, R78)
  | ldaIzx (zp : Byte)  -- $A1 LDA ($nn,X) (R89, R86)
  | ldxImm (imm : Byte)  -- $A2 LDX #$nn (R90, R78)
  | laxIzx (zp : Byte)  -- $A3 LAX ($nn,X) (R158, R86)
  | ldyZp (zp : Byte)  -- $A4 LDY $nn (R91, R79)
  | ldaZp (zp : Byte)  -- $A5 LDA $nn (R89, R79)
  | ldxZp (zp : Byte)  -- $A6 LDX $nn (R90, R79)
  | laxZp (zp : Byte)  -- $A7 LAX $nn (R158, R79)
  | ldaImm (imm : Byte)  -- $A9 LDA #$nn (R89, R78)
  | lxaImm (imm : Byte)  -- $AB LXA #$nn (R164, R78)
  | ldyAbs (addr : Word)  -- $AC LDY $hhll (R91, R82)
  | ldaAbs (addr : Word)  -- $AD LDA $hhll (R89, R82)
  | ldxAbs (addr : Word)  -- $AE LDX $hhll (R90, R82)
  | laxAbs (addr : Word)  -- $AF LAX $hhll (R158, R82)
  | bcs (off : Byte)  -- $B0 BCS label (R126, R88)
  | ldaIzy (zp : Byte)  -- $B1 LDA ($nn),Y (R89, R87)
  | laxIzy (zp : Byte)  -- $B3 LAX ($nn),Y (R158, R87)
  | ldyZpx (zp : Byte)  -- $B4 LDY $nn,X (R91, R80)
  | ldaZpx (zp : Byte)  -- $B5 LDA $nn,X (R89, R80)
  | ldxZpy (zp : Byte)  -- $B6 LDX $nn,Y (R90, R81)
  | laxZpy (zp : Byte)  -- $B7 LAX $nn,Y (R158, R81)
  | ldaAby (base : Word)  -- $B9 LDA $hhll,Y (R89, R84)
  | larAby (base : Word)  -- $BB LAR $hhll,Y (R165, R84)
  | ldyAbx (base : Word)  -- $BC LDY $hhll,X (R91, R83)
  | ldaAbx (base : Word)  -- $BD LDA $hhll,X (R89, R83)
  | ldxAby (base : Word)  -- $BE LDX $hhll,Y (R90, R84)
  | laxAby (base : Word)  -- $BF LAX $hhll,Y (R158, R84)
  | cpyImm (imm : Byte)  -- $C0 CPY #$nn (R112, R78)
  | cmpIzx (zp : Byte)  -- $C1 CMP ($nn,X) (R110, R86)
  | nopImmC2 (imm : Byte)  -- $C2 NOP #$nn (R171, R78)
  | dcpIzx (zp : Byte)  -- $C3 DCP ($nn,X) (R155, R86)
  | cpyZp (zp : Byte)  -- $C4 CPY $nn (R112, R79)
  | cmpZp (zp : Byte)  -- $C5 CMP $nn (R110, R79)
  | decZp (zp : Byte)  -- $C6 DEC $nn (R119, R79)
  | dcpZp (zp : Byte)  -- $C7 DCP $nn (R155, R79)
  | cmpImm (imm : Byte)  -- $C9 CMP #$nn (R110, R78)
  | axsImm (imm : Byte)  -- $CB AXS #$nn (R162, R78)
  | cpyAbs (addr : Word)  -- $CC CPY $hhll (R112, R82)
  | cmpAbs (addr : Word)  -- $CD CMP $hhll (R110, R82)
  | decAbs (addr : Word)  -- $CE DEC $hhll (R119, R82)
  | dcpAbs (addr : Word)  -- $CF DCP $hhll (R155, R82)
  | bne (off : Byte)  -- $D0 BNE label (R128, R88)
  | cmpIzy (zp : Byte)  -- $D1 CMP ($nn),Y (R110, R87)
  | dcpIzy (zp : Byte)  -- $D3 DCP ($nn),Y (R155, R87)
  | nopZpxD4 (zp : Byte)  -- $D4 NOP $nn,X (R171, R80)
  | cmpZpx (zp : Byte)  -- $D5 CMP $nn,X (R110, R80)
  | decZpx (zp : Byte)  -- $D6 DEC $nn,X (R119, R80)
  | dcpZpx (zp : Byte)  -- $D7 DCP $nn,X (R155, R80)
  | cmpAby (base : Word)  -- $D9 CMP $hhll,Y (R110, R84)
  | dcpAby (base : Word)  -- $DB DCP $hhll,Y (R155, R84)
  | nopAbxDC (base : Word)  -- $DC NOP $hhll,X (R171, R83)
  | cmpAbx (base : Word)  -- $DD CMP $hhll,X (R110, R83)
  | decAbx (base : Word)  -- $DE DEC $hhll,X (R119, R83)
  | dcpAbx (base : Word)  -- $DF DCP $hhll,X (R155, R83)
  | cpxImm (imm : Byte)  -- $E0 CPX #$nn (R111, R78)
  | sbcIzx (zp : Byte)  -- $E1 SBC ($nn,X) (R106, R86)
  | nopImmE2 (imm : Byte)  -- $E2 NOP #$nn (R171, R78)
  | iscIzx (zp : Byte)  -- $E3 ISC ($nn,X) (R156, R86)
  | cpxZp (zp : Byte)  -- $E4 CPX $nn (R111, R79)
  | sbcZp (zp : Byte)  -- $E5 SBC $nn (R106, R79)
  | incZp (zp : Byte)  -- $E6 INC $nn (R118, R79)
  | iscZp (zp : Byte)  -- $E7 ISC $nn (R156, R79)
  | sbcImm (imm : Byte)  -- $E9 SBC #$nn (R106, R78)
  | sbcImmEB (imm : Byte)  -- $EB SBC #$nn (R106, R78)
  | cpxAbs (addr : Word)  -- $EC CPX $hhll (R111, R82)
  | sbcAbs (addr : Word)  -- $ED SBC $hhll (R106, R82)
  | incAbs (addr : Word)  -- $EE INC $hhll (R118, R82)
  | iscAbs (addr : Word)  -- $EF ISC $hhll (R156, R82)
  | beq (off : Byte)  -- $F0 BEQ label (R127, R88)
  | sbcIzy (zp : Byte)  -- $F1 SBC ($nn),Y (R106, R87)
  | iscIzy (zp : Byte)  -- $F3 ISC ($nn),Y (R156, R87)
  | nopZpxF4 (zp : Byte)  -- $F4 NOP $nn,X (R171, R80)
  | sbcZpx (zp : Byte)  -- $F5 SBC $nn,X (R106, R80)
  | incZpx (zp : Byte)  -- $F6 INC $nn,X (R118, R80)
  | iscZpx (zp : Byte)  -- $F7 ISC $nn,X (R156, R80)
  | sbcAby (base : Word)  -- $F9 SBC $hhll,Y (R106, R84)
  | iscAby (base : Word)  -- $FB ISC $hhll,Y (R156, R84)
  | nopAbxFC (base : Word)  -- $FC NOP $hhll,X (R171, R83)
  | sbcAbx (base : Word)  -- $FD SBC $hhll,X (R106, R83)
  | incAbx (base : Word)  -- $FE INC $hhll,X (R118, R83)
  | iscAbx (base : Word)  -- $FF ISC $hhll,X (R156, R83)
  | brk  -- $00 BRK (R137, R76)
  | jam02  -- $02 JAM (R172, R76)
  | php  -- $08 PHP (R139, R76)
  | aslAcc  -- $0A ASL A (R114, R77)
  | jam12  -- $12 JAM (R172, R76)
  | clc  -- $18 CLC (R142, R76)
  | nop1A  -- $1A NOP (R171, R76)
  | jam22  -- $22 JAM (R172, R76)
  | plp  -- $28 PLP (R141, R76)
  | rolAcc  -- $2A ROL A (R116, R77)
  | jam32  -- $32 JAM (R172, R76)
  | sec  -- $38 SEC (R143, R76)
  | nop3A  -- $3A NOP (R171, R76)
  | rti  -- $40 RTI (R136, R76)
  | jam42  -- $42 JAM (R172, R76)
  | pha  -- $48 PHA (R138, R76)
  | lsrAcc  -- $4A LSR A (R115, R77)
  | jam52  -- $52 JAM (R172, R76)
  | cli  -- $58 CLI (R144, R76)
  | nop5A  -- $5A NOP (R171, R76)
  | rts  -- $60 RTS (R135, R76)
  | jam62  -- $62 JAM (R172, R76)
  | pla  -- $68 PLA (R140, R76)
  | rorAcc  -- $6A ROR A (R117, R77)
  | jam72  -- $72 JAM (R172, R76)
  | sei  -- $78 SEI (R145, R76)
  | nop7A  -- $7A NOP (R171, R76)
  | dey  -- $88 DEY (R123, R76)
  | txa  -- $8A TXA (R97, R76)
  | jam92  -- $92 JAM (R172, R76)
  | tya  -- $98 TYA (R98, R76)
  | txs  -- $9A TXS (R100, R76)
  | tay  -- $A8 TAY (R96, R76)
  | tax  -- $AA TAX (R95, R76)
  | jamB2  -- $B2 JAM (R172, R76)
  | clv  -- $B8 CLV (R148, R76)
  | tsx  -- $BA TSX (R99, R76)
  | iny  -- $C8 INY (R121, R76)
  | dex  -- $CA DEX (R122, R76)
  | jamD2  -- $D2 JAM (R172, R76)
  | cld  -- $D8 CLD (R146, R76)
  | nopDA  -- $DA NOP (R171, R76)
  | inx  -- $E8 INX (R120, R76)
  | nop  -- $EA NOP (R149, R76)
  | jamF2  -- $F2 JAM (R172, R76)
  | sed  -- $F8 SED (R147, R76)
  | nopFA  -- $FA NOP (R171, R76)
deriving DecidableEq, Repr

end Sys2Proof
end

