-- ==== Sys2Proof/Decode.lean ====
section
/-! DEFINITION. From bytes to an instruction and back (spec/30_encoding.md R63-R67, R72): the opcode map, the
decoder, total on every string of bytes and rejecting by name, and after it the encoder, written from the match
column of spec/opcode_table.json and not from the decoder's map. -/

namespace Sys2Proof

/-- The word with high byte `hi` and low byte `lo` (R66 `abs16`, R12 `(h << 8) | l`). -/
def wordOf (hi lo : Byte) : Word := hi ++ lo

/-- Bits 7:0 of a word. -/
def loByte (w : Word) : Byte := w.extractLsb' 0 8

/-- Bits 15:8 of a word. -/
def hiByte (w : Word) : Byte := w.extractLsb' 8 8

/-- What an opcode byte still needs before it is an instruction: nothing, one operand byte or one little-endian
operand word (R64). -/
inductive Form where
  | implied (i : Instr)
  | byte (mk : Byte → Instr)
  | word (mk : Word → Instr)

/-- Opcodes $00 to $0F of the map of R67. -/
def opcodeRow0 : List Form :=
  [.implied .brk, .byte .oraIzx, .implied .jam02, .byte .sloIzx, .byte .nopZp04,
   .byte .oraZp, .byte .aslZp, .byte .sloZp, .implied .php, .byte .oraImm,
   .implied .aslAcc, .byte .ancImm0B, .word .nopAbs, .word .oraAbs, .word .aslAbs,
   .word .sloAbs]

/-- Opcodes $10 to $1F of the map of R67. -/
def opcodeRow1 : List Form :=
  [.byte .bpl, .byte .oraIzy, .implied .jam12, .byte .sloIzy, .byte .nopZpx14,
   .byte .oraZpx, .byte .aslZpx, .byte .sloZpx, .implied .clc, .word .oraAby,
   .implied .nop1A, .word .sloAby, .word .nopAbx1C, .word .oraAbx, .word .aslAbx,
   .word .sloAbx]

/-- Opcodes $20 to $2F of the map of R67. -/
def opcodeRow2 : List Form :=
  [.word .jsrAbs, .byte .andIzx, .implied .jam22, .byte .rlaIzx, .byte .bitZp,
   .byte .andZp, .byte .rolZp, .byte .rlaZp, .implied .plp, .byte .andImm,
   .implied .rolAcc, .byte .ancImm2B, .word .bitAbs, .word .andAbs, .word .rolAbs,
   .word .rlaAbs]

/-- Opcodes $30 to $3F of the map of R67. -/
def opcodeRow3 : List Form :=
  [.byte .bmi, .byte .andIzy, .implied .jam32, .byte .rlaIzy, .byte .nopZpx34,
   .byte .andZpx, .byte .rolZpx, .byte .rlaZpx, .implied .sec, .word .andAby,
   .implied .nop3A, .word .rlaAby, .word .nopAbx3C, .word .andAbx, .word .rolAbx,
   .word .rlaAbx]

/-- Opcodes $40 to $4F of the map of R67. -/
def opcodeRow4 : List Form :=
  [.implied .rti, .byte .eorIzx, .implied .jam42, .byte .sreIzx, .byte .nopZp44,
   .byte .eorZp, .byte .lsrZp, .byte .sreZp, .implied .pha, .byte .eorImm,
   .implied .lsrAcc, .byte .alrImm, .word .jmpAbs, .word .eorAbs, .word .lsrAbs,
   .word .sreAbs]

/-- Opcodes $50 to $5F of the map of R67. -/
def opcodeRow5 : List Form :=
  [.byte .bvc, .byte .eorIzy, .implied .jam52, .byte .sreIzy, .byte .nopZpx54,
   .byte .eorZpx, .byte .lsrZpx, .byte .sreZpx, .implied .cli, .word .eorAby,
   .implied .nop5A, .word .sreAby, .word .nopAbx5C, .word .eorAbx, .word .lsrAbx,
   .word .sreAbx]

/-- Opcodes $60 to $6F of the map of R67. -/
def opcodeRow6 : List Form :=
  [.implied .rts, .byte .adcIzx, .implied .jam62, .byte .rraIzx, .byte .nopZp64,
   .byte .adcZp, .byte .rorZp, .byte .rraZp, .implied .pla, .byte .adcImm,
   .implied .rorAcc, .byte .arrImm, .word .jmpInd, .word .adcAbs, .word .rorAbs,
   .word .rraAbs]

/-- Opcodes $70 to $7F of the map of R67. -/
def opcodeRow7 : List Form :=
  [.byte .bvs, .byte .adcIzy, .implied .jam72, .byte .rraIzy, .byte .nopZpx74,
   .byte .adcZpx, .byte .rorZpx, .byte .rraZpx, .implied .sei, .word .adcAby,
   .implied .nop7A, .word .rraAby, .word .nopAbx7C, .word .adcAbx, .word .rorAbx,
   .word .rraAbx]

/-- Opcodes $80 to $8F of the map of R67. -/
def opcodeRow8 : List Form :=
  [.byte .nopImm80, .byte .staIzx, .byte .nopImm82, .byte .saxIzx, .byte .styZp,
   .byte .staZp, .byte .stxZp, .byte .saxZp, .implied .dey, .byte .nopImm89,
   .implied .txa, .byte .xaaImm, .word .styAbs, .word .staAbs, .word .stxAbs,
   .word .saxAbs]

/-- Opcodes $90 to $9F of the map of R67. -/
def opcodeRow9 : List Form :=
  [.byte .bcc, .byte .staIzy, .implied .jam92, .byte .ahxIzy, .byte .styZpx,
   .byte .staZpx, .byte .stxZpy, .byte .saxZpy, .implied .tya, .word .staAby,
   .implied .txs, .word .tasAby, .word .shyAbx, .word .staAbx, .word .shxAby,
   .word .ahxAby]

/-- Opcodes $A0 to $AF of the map of R67. -/
def opcodeRowA : List Form :=
  [.byte .ldyImm, .byte .ldaIzx, .byte .ldxImm, .byte .laxIzx, .byte .ldyZp,
   .byte .ldaZp, .byte .ldxZp, .byte .laxZp, .implied .tay, .byte .ldaImm,
   .implied .tax, .byte .lxaImm, .word .ldyAbs, .word .ldaAbs, .word .ldxAbs,
   .word .laxAbs]

/-- Opcodes $B0 to $BF of the map of R67. -/
def opcodeRowB : List Form :=
  [.byte .bcs, .byte .ldaIzy, .implied .jamB2, .byte .laxIzy, .byte .ldyZpx,
   .byte .ldaZpx, .byte .ldxZpy, .byte .laxZpy, .implied .clv, .word .ldaAby,
   .implied .tsx, .word .larAby, .word .ldyAbx, .word .ldaAbx, .word .ldxAby,
   .word .laxAby]

/-- Opcodes $C0 to $CF of the map of R67. -/
def opcodeRowC : List Form :=
  [.byte .cpyImm, .byte .cmpIzx, .byte .nopImmC2, .byte .dcpIzx, .byte .cpyZp,
   .byte .cmpZp, .byte .decZp, .byte .dcpZp, .implied .iny, .byte .cmpImm,
   .implied .dex, .byte .axsImm, .word .cpyAbs, .word .cmpAbs, .word .decAbs,
   .word .dcpAbs]

/-- Opcodes $D0 to $DF of the map of R67. -/
def opcodeRowD : List Form :=
  [.byte .bne, .byte .cmpIzy, .implied .jamD2, .byte .dcpIzy, .byte .nopZpxD4,
   .byte .cmpZpx, .byte .decZpx, .byte .dcpZpx, .implied .cld, .word .cmpAby,
   .implied .nopDA, .word .dcpAby, .word .nopAbxDC, .word .cmpAbx, .word .decAbx,
   .word .dcpAbx]

/-- Opcodes $E0 to $EF of the map of R67. -/
def opcodeRowE : List Form :=
  [.byte .cpxImm, .byte .sbcIzx, .byte .nopImmE2, .byte .iscIzx, .byte .cpxZp,
   .byte .sbcZp, .byte .incZp, .byte .iscZp, .implied .inx, .byte .sbcImm,
   .implied .nop, .byte .sbcImmEB, .word .cpxAbs, .word .sbcAbs, .word .incAbs,
   .word .iscAbs]

/-- Opcodes $F0 to $FF of the map of R67. -/
def opcodeRowF : List Form :=
  [.byte .beq, .byte .sbcIzy, .implied .jamF2, .byte .iscIzy, .byte .nopZpxF4,
   .byte .sbcZpx, .byte .incZpx, .byte .iscZpx, .implied .sed, .word .sbcAby,
   .implied .nopFA, .word .iscAby, .word .nopAbxFC, .word .sbcAbx, .word .incAbx,
   .word .iscAbx]

/-- The opcode map of R67: row by high nibble, column by low nibble. -/
def opcodeMap : List (List Form) :=
  [opcodeRow0, opcodeRow1, opcodeRow2, opcodeRow3, opcodeRow4,
   opcodeRow5, opcodeRow6, opcodeRow7, opcodeRow8, opcodeRow9,
   opcodeRowA, opcodeRowB, opcodeRowC, opcodeRowD, opcodeRowE, opcodeRowF]

/-- The entry of an opcode byte. The map has 16 rows of 16 entries, so the two defaults are never taken (R67). -/
def formOf (op : Byte) : Form :=
  (opcodeMap.getD (op.toNat / 16) []).getD (op.toNat % 16) (.implied .nop)

/-- Why a string of bytes is no instruction: it has no opcode byte, or it ends before the operands of its opcode.
No opcode byte is ever refused (R72). -/
inductive DecodeError where
  | noOpcode
  | truncated (opcode : Byte)
deriving DecidableEq, Repr

/-- Reads one instruction from the front of a string of bytes and answers it with the bytes that follow: the opcode
byte alone selects the form, and a word operand stands low byte first (R63, R66, R72). -/
def decode : List Byte → Except DecodeError (Instr × List Byte)
  | [] => .error .noOpcode
  | op :: bs =>
    match formOf op, bs with
    | .implied i, rest => .ok (i, rest)
    | .byte mk, v :: rest => .ok (mk v, rest)
    | .word mk, lo :: hi :: rest => .ok (mk (wordOf hi lo), rest)
    | .byte _, [] => .error (.truncated op)
    | .word _, [] => .error (.truncated op)
    | .word _, [_] => .error (.truncated op)

/-- The three bytes of a number whose bit 0 is bit 0 of the first byte, every bit from `nbits` up being 0. Three bytes
are the longest instruction (R64). -/
def tableBytes (nbits w : Nat) : List Byte :=
  let v := w % 2 ^ nbits
  [BitVec.ofNat 8 v, BitVec.ofNat 8 (v / 256), BitVec.ofNat 8 (v / 65536)]

/-- The instruction the decoder reads from a table word of `nbits` bits. -/
def decodeTableWord (nbits w : Nat) : Option Instr :=
  match decode (tableBytes nbits w) with
  | .ok (i, _) => some i
  | .error _ => none

/-- The code of an instruction: its opcode byte (the match column of spec/opcode_table.json), then its operand bytes,
a word low byte first (R64). -/
def encode : Instr → List Byte
  | .brk => [0x00#8]
  | .oraIzx v => [0x01#8, v]
  | .jam02 => [0x02#8]
  | .sloIzx v => [0x03#8, v]
  | .nopZp04 v => [0x04#8, v]
  | .oraZp v => [0x05#8, v]
  | .aslZp v => [0x06#8, v]
  | .sloZp v => [0x07#8, v]
  | .php => [0x08#8]
  | .oraImm v => [0x09#8, v]
  | .aslAcc => [0x0A#8]
  | .ancImm0B v => [0x0B#8, v]
  | .nopAbs w => [0x0C#8, loByte w, hiByte w]
  | .oraAbs w => [0x0D#8, loByte w, hiByte w]
  | .aslAbs w => [0x0E#8, loByte w, hiByte w]
  | .sloAbs w => [0x0F#8, loByte w, hiByte w]
  | .bpl v => [0x10#8, v]
  | .oraIzy v => [0x11#8, v]
  | .jam12 => [0x12#8]
  | .sloIzy v => [0x13#8, v]
  | .nopZpx14 v => [0x14#8, v]
  | .oraZpx v => [0x15#8, v]
  | .aslZpx v => [0x16#8, v]
  | .sloZpx v => [0x17#8, v]
  | .clc => [0x18#8]
  | .oraAby w => [0x19#8, loByte w, hiByte w]
  | .nop1A => [0x1A#8]
  | .sloAby w => [0x1B#8, loByte w, hiByte w]
  | .nopAbx1C w => [0x1C#8, loByte w, hiByte w]
  | .oraAbx w => [0x1D#8, loByte w, hiByte w]
  | .aslAbx w => [0x1E#8, loByte w, hiByte w]
  | .sloAbx w => [0x1F#8, loByte w, hiByte w]
  | .jsrAbs w => [0x20#8, loByte w, hiByte w]
  | .andIzx v => [0x21#8, v]
  | .jam22 => [0x22#8]
  | .rlaIzx v => [0x23#8, v]
  | .bitZp v => [0x24#8, v]
  | .andZp v => [0x25#8, v]
  | .rolZp v => [0x26#8, v]
  | .rlaZp v => [0x27#8, v]
  | .plp => [0x28#8]
  | .andImm v => [0x29#8, v]
  | .rolAcc => [0x2A#8]
  | .ancImm2B v => [0x2B#8, v]
  | .bitAbs w => [0x2C#8, loByte w, hiByte w]
  | .andAbs w => [0x2D#8, loByte w, hiByte w]
  | .rolAbs w => [0x2E#8, loByte w, hiByte w]
  | .rlaAbs w => [0x2F#8, loByte w, hiByte w]
  | .bmi v => [0x30#8, v]
  | .andIzy v => [0x31#8, v]
  | .jam32 => [0x32#8]
  | .rlaIzy v => [0x33#8, v]
  | .nopZpx34 v => [0x34#8, v]
  | .andZpx v => [0x35#8, v]
  | .rolZpx v => [0x36#8, v]
  | .rlaZpx v => [0x37#8, v]
  | .sec => [0x38#8]
  | .andAby w => [0x39#8, loByte w, hiByte w]
  | .nop3A => [0x3A#8]
  | .rlaAby w => [0x3B#8, loByte w, hiByte w]
  | .nopAbx3C w => [0x3C#8, loByte w, hiByte w]
  | .andAbx w => [0x3D#8, loByte w, hiByte w]
  | .rolAbx w => [0x3E#8, loByte w, hiByte w]
  | .rlaAbx w => [0x3F#8, loByte w, hiByte w]
  | .rti => [0x40#8]
  | .eorIzx v => [0x41#8, v]
  | .jam42 => [0x42#8]
  | .sreIzx v => [0x43#8, v]
  | .nopZp44 v => [0x44#8, v]
  | .eorZp v => [0x45#8, v]
  | .lsrZp v => [0x46#8, v]
  | .sreZp v => [0x47#8, v]
  | .pha => [0x48#8]
  | .eorImm v => [0x49#8, v]
  | .lsrAcc => [0x4A#8]
  | .alrImm v => [0x4B#8, v]
  | .jmpAbs w => [0x4C#8, loByte w, hiByte w]
  | .eorAbs w => [0x4D#8, loByte w, hiByte w]
  | .lsrAbs w => [0x4E#8, loByte w, hiByte w]
  | .sreAbs w => [0x4F#8, loByte w, hiByte w]
  | .bvc v => [0x50#8, v]
  | .eorIzy v => [0x51#8, v]
  | .jam52 => [0x52#8]
  | .sreIzy v => [0x53#8, v]
  | .nopZpx54 v => [0x54#8, v]
  | .eorZpx v => [0x55#8, v]
  | .lsrZpx v => [0x56#8, v]
  | .sreZpx v => [0x57#8, v]
  | .cli => [0x58#8]
  | .eorAby w => [0x59#8, loByte w, hiByte w]
  | .nop5A => [0x5A#8]
  | .sreAby w => [0x5B#8, loByte w, hiByte w]
  | .nopAbx5C w => [0x5C#8, loByte w, hiByte w]
  | .eorAbx w => [0x5D#8, loByte w, hiByte w]
  | .lsrAbx w => [0x5E#8, loByte w, hiByte w]
  | .sreAbx w => [0x5F#8, loByte w, hiByte w]
  | .rts => [0x60#8]
  | .adcIzx v => [0x61#8, v]
  | .jam62 => [0x62#8]
  | .rraIzx v => [0x63#8, v]
  | .nopZp64 v => [0x64#8, v]
  | .adcZp v => [0x65#8, v]
  | .rorZp v => [0x66#8, v]
  | .rraZp v => [0x67#8, v]
  | .pla => [0x68#8]
  | .adcImm v => [0x69#8, v]
  | .rorAcc => [0x6A#8]
  | .arrImm v => [0x6B#8, v]
  | .jmpInd w => [0x6C#8, loByte w, hiByte w]
  | .adcAbs w => [0x6D#8, loByte w, hiByte w]
  | .rorAbs w => [0x6E#8, loByte w, hiByte w]
  | .rraAbs w => [0x6F#8, loByte w, hiByte w]
  | .bvs v => [0x70#8, v]
  | .adcIzy v => [0x71#8, v]
  | .jam72 => [0x72#8]
  | .rraIzy v => [0x73#8, v]
  | .nopZpx74 v => [0x74#8, v]
  | .adcZpx v => [0x75#8, v]
  | .rorZpx v => [0x76#8, v]
  | .rraZpx v => [0x77#8, v]
  | .sei => [0x78#8]
  | .adcAby w => [0x79#8, loByte w, hiByte w]
  | .nop7A => [0x7A#8]
  | .rraAby w => [0x7B#8, loByte w, hiByte w]
  | .nopAbx7C w => [0x7C#8, loByte w, hiByte w]
  | .adcAbx w => [0x7D#8, loByte w, hiByte w]
  | .rorAbx w => [0x7E#8, loByte w, hiByte w]
  | .rraAbx w => [0x7F#8, loByte w, hiByte w]
  | .nopImm80 v => [0x80#8, v]
  | .staIzx v => [0x81#8, v]
  | .nopImm82 v => [0x82#8, v]
  | .saxIzx v => [0x83#8, v]
  | .styZp v => [0x84#8, v]
  | .staZp v => [0x85#8, v]
  | .stxZp v => [0x86#8, v]
  | .saxZp v => [0x87#8, v]
  | .dey => [0x88#8]
  | .nopImm89 v => [0x89#8, v]
  | .txa => [0x8A#8]
  | .xaaImm v => [0x8B#8, v]
  | .styAbs w => [0x8C#8, loByte w, hiByte w]
  | .staAbs w => [0x8D#8, loByte w, hiByte w]
  | .stxAbs w => [0x8E#8, loByte w, hiByte w]
  | .saxAbs w => [0x8F#8, loByte w, hiByte w]
  | .bcc v => [0x90#8, v]
  | .staIzy v => [0x91#8, v]
  | .jam92 => [0x92#8]
  | .ahxIzy v => [0x93#8, v]
  | .styZpx v => [0x94#8, v]
  | .staZpx v => [0x95#8, v]
  | .stxZpy v => [0x96#8, v]
  | .saxZpy v => [0x97#8, v]
  | .tya => [0x98#8]
  | .staAby w => [0x99#8, loByte w, hiByte w]
  | .txs => [0x9A#8]
  | .tasAby w => [0x9B#8, loByte w, hiByte w]
  | .shyAbx w => [0x9C#8, loByte w, hiByte w]
  | .staAbx w => [0x9D#8, loByte w, hiByte w]
  | .shxAby w => [0x9E#8, loByte w, hiByte w]
  | .ahxAby w => [0x9F#8, loByte w, hiByte w]
  | .ldyImm v => [0xA0#8, v]
  | .ldaIzx v => [0xA1#8, v]
  | .ldxImm v => [0xA2#8, v]
  | .laxIzx v => [0xA3#8, v]
  | .ldyZp v => [0xA4#8, v]
  | .ldaZp v => [0xA5#8, v]
  | .ldxZp v => [0xA6#8, v]
  | .laxZp v => [0xA7#8, v]
  | .tay => [0xA8#8]
  | .ldaImm v => [0xA9#8, v]
  | .tax => [0xAA#8]
  | .lxaImm v => [0xAB#8, v]
  | .ldyAbs w => [0xAC#8, loByte w, hiByte w]
  | .ldaAbs w => [0xAD#8, loByte w, hiByte w]
  | .ldxAbs w => [0xAE#8, loByte w, hiByte w]
  | .laxAbs w => [0xAF#8, loByte w, hiByte w]
  | .bcs v => [0xB0#8, v]
  | .ldaIzy v => [0xB1#8, v]
  | .jamB2 => [0xB2#8]
  | .laxIzy v => [0xB3#8, v]
  | .ldyZpx v => [0xB4#8, v]
  | .ldaZpx v => [0xB5#8, v]
  | .ldxZpy v => [0xB6#8, v]
  | .laxZpy v => [0xB7#8, v]
  | .clv => [0xB8#8]
  | .ldaAby w => [0xB9#8, loByte w, hiByte w]
  | .tsx => [0xBA#8]
  | .larAby w => [0xBB#8, loByte w, hiByte w]
  | .ldyAbx w => [0xBC#8, loByte w, hiByte w]
  | .ldaAbx w => [0xBD#8, loByte w, hiByte w]
  | .ldxAby w => [0xBE#8, loByte w, hiByte w]
  | .laxAby w => [0xBF#8, loByte w, hiByte w]
  | .cpyImm v => [0xC0#8, v]
  | .cmpIzx v => [0xC1#8, v]
  | .nopImmC2 v => [0xC2#8, v]
  | .dcpIzx v => [0xC3#8, v]
  | .cpyZp v => [0xC4#8, v]
  | .cmpZp v => [0xC5#8, v]
  | .decZp v => [0xC6#8, v]
  | .dcpZp v => [0xC7#8, v]
  | .iny => [0xC8#8]
  | .cmpImm v => [0xC9#8, v]
  | .dex => [0xCA#8]
  | .axsImm v => [0xCB#8, v]
  | .cpyAbs w => [0xCC#8, loByte w, hiByte w]
  | .cmpAbs w => [0xCD#8, loByte w, hiByte w]
  | .decAbs w => [0xCE#8, loByte w, hiByte w]
  | .dcpAbs w => [0xCF#8, loByte w, hiByte w]
  | .bne v => [0xD0#8, v]
  | .cmpIzy v => [0xD1#8, v]
  | .jamD2 => [0xD2#8]
  | .dcpIzy v => [0xD3#8, v]
  | .nopZpxD4 v => [0xD4#8, v]
  | .cmpZpx v => [0xD5#8, v]
  | .decZpx v => [0xD6#8, v]
  | .dcpZpx v => [0xD7#8, v]
  | .cld => [0xD8#8]
  | .cmpAby w => [0xD9#8, loByte w, hiByte w]
  | .nopDA => [0xDA#8]
  | .dcpAby w => [0xDB#8, loByte w, hiByte w]
  | .nopAbxDC w => [0xDC#8, loByte w, hiByte w]
  | .cmpAbx w => [0xDD#8, loByte w, hiByte w]
  | .decAbx w => [0xDE#8, loByte w, hiByte w]
  | .dcpAbx w => [0xDF#8, loByte w, hiByte w]
  | .cpxImm v => [0xE0#8, v]
  | .sbcIzx v => [0xE1#8, v]
  | .nopImmE2 v => [0xE2#8, v]
  | .iscIzx v => [0xE3#8, v]
  | .cpxZp v => [0xE4#8, v]
  | .sbcZp v => [0xE5#8, v]
  | .incZp v => [0xE6#8, v]
  | .iscZp v => [0xE7#8, v]
  | .inx => [0xE8#8]
  | .sbcImm v => [0xE9#8, v]
  | .nop => [0xEA#8]
  | .sbcImmEB v => [0xEB#8, v]
  | .cpxAbs w => [0xEC#8, loByte w, hiByte w]
  | .sbcAbs w => [0xED#8, loByte w, hiByte w]
  | .incAbs w => [0xEE#8, loByte w, hiByte w]
  | .iscAbs w => [0xEF#8, loByte w, hiByte w]
  | .beq v => [0xF0#8, v]
  | .sbcIzy v => [0xF1#8, v]
  | .jamF2 => [0xF2#8]
  | .iscIzy v => [0xF3#8, v]
  | .nopZpxF4 v => [0xF4#8, v]
  | .sbcZpx v => [0xF5#8, v]
  | .incZpx v => [0xF6#8, v]
  | .iscZpx v => [0xF7#8, v]
  | .sed => [0xF8#8]
  | .sbcAby w => [0xF9#8, loByte w, hiByte w]
  | .nopFA => [0xFA#8]
  | .iscAby w => [0xFB#8, loByte w, hiByte w]
  | .nopAbxFC w => [0xFC#8, loByte w, hiByte w]
  | .sbcAbx w => [0xFD#8, loByte w, hiByte w]
  | .incAbx w => [0xFE#8, loByte w, hiByte w]
  | .iscAbx w => [0xFF#8, loByte w, hiByte w]

end Sys2Proof
end

