-- ==== Sys2Proof/Machine/Memory.lean ====
section
/-! DEFINITION. The operations over a memory held as `Store w` (internal RAM, OAM, nametables, palette, frame buffer,
the test cartridge's two memories), and the predicate that says its canonical form holds. An unlisted key reads as 0:
every memory of the core is all 0 at power-on (R33, R41). -/

namespace Sys2Proof.Machine

/-- The entry at a key; 0 for a key that is not listed. -/
def Memory.load {w : Nat} : Store w → Nat → BitVec w
  | [], _ => 0
  | (k, v) :: m, a => if k = a then v else Memory.load m a

/-- The memory with no entry at a key. -/
def Memory.erase {w : Nat} : Store w → Nat → Store w
  | [], _ => []
  | (k, v) :: m, a => if k = a then Memory.erase m a else (k, v) :: Memory.erase m a

/-- A new entry put before the first greater key. -/
def Memory.insert {w : Nat} : Store w → Nat → BitVec w → Store w
  | [], a, v => [(a, v)]
  | (k, x) :: m, a, v => if k < a then (k, x) :: Memory.insert m a v else (a, v) :: (k, x) :: m

/-- The memory with `v` at a key. Writing 0 removes the entry, so that equal memories are equal lists. -/
def Memory.store {w : Nat} (m : Store w) (a : Nat) (v : BitVec w) : Store w :=
  if v = 0 then Memory.erase m a else Memory.insert (Memory.erase m a) a v

/-- The canonical form: keys strictly rising and no entry equal to 0. -/
def Memory.wf {w : Nat} : Store w → Bool
  | [] => true
  | (k, v) :: m => (v != 0) && m.all (fun c => decide (k < c.1)) && Memory.wf m

/-- Every key lies below a bound: the memory lists no cell the hardware does not have. -/
def Memory.below {w : Nat} (bound : Nat) (m : Store w) : Bool := m.all (fun c => decide (c.1 < bound))

end Sys2Proof.Machine
end

