-- ==== Sys2Proof/Machine/Cartridge.lean ====
section
/-! DEFINITION. The cartridge contract (R49): the nine functions the core calls, for no cartridge (R50), for the test
cartridge of spec/95_test_vectors.md section 3.0, and for any other cartridge, whose functions are OPEN. -/

namespace Sys2Proof.Machine

/-- Whether the test cartridge claims a CPU address: $8000-$FFFF (spec/95_test_vectors.md section 3.0). -/
def boardClaimsCpu (a : Word) : Bool := decide (0x8000 ≤ a.toNat)

/-- Whether the test cartridge claims a PPU address: $0000-$1FFF (spec/95_test_vectors.md section 3.0). -/
def boardClaimsPpu (a : BitVec 14) : Bool := decide (a.toNat < 0x2000)

/-- `cart.cpuRead` (R49): the byte if the address is claimed, and the new cartridge state. -/
def cartCpuRead : Cart → Word → Option Byte × Cart
  | .absent, _ => (none, .absent)
  | .board m, a => (if boardClaimsCpu a then some (Memory.load m.prg a.toNat) else none, .board m)
  | .custom cs, a => ((Config.cartCpuRead cs a).1, .custom (Config.cartCpuRead cs a).2)

/-- `cart.cpuWrite` (R49): whether the write is claimed, and the new cartridge state. The test cartridge's ROM ignores
the writes it claims. -/
def cartCpuWrite : Cart → Word → Byte → Bool × Cart
  | .absent, _, _ => (false, .absent)
  | .board m, a, _ => (boardClaimsCpu a, .board m)
  | .custom cs, a, d => ((Config.cartCpuWrite cs a d).1, .custom (Config.cartCpuWrite cs a d).2)

/-- `cart.ppuRead` (R49). -/
def cartPpuRead : Cart → BitVec 14 → Option Byte × Cart
  | .absent, _ => (none, .absent)
  | .board m, a => (if boardClaimsPpu a then some (Memory.load m.chr a.toNat) else none, .board m)
  | .custom cs, a => ((Config.cartPpuRead cs a).1, .custom (Config.cartPpuRead cs a).2)

/-- `cart.ppuWrite` (R49). -/
def cartPpuWrite : Cart → BitVec 14 → Byte → Bool × Cart
  | .absent, _, _ => (false, .absent)
  | .board m, a, d =>
    (boardClaimsPpu a, if boardClaimsPpu a then .board { m with chr := Memory.store m.chr a.toNat d } else .board m)
  | .custom cs, a, d => ((Config.cartPpuWrite cs a d).1, .custom (Config.cartPpuWrite cs a d).2)

/-- `cart.mirrorMode` (R49, R50). -/
def cartMirrorMode : Cart → MirrorMode
  | .absent => .horizontal
  | .board _ => .horizontal
  | .custom cs => Config.cartMirrorMode cs

/-- `cart.hardwiredMirror` (R49). Asked only of a cartridge that reports `hardwired`. -/
def cartHardwiredMirror : Cart → HardwiredMirror
  | .absent => .horizontal
  | .board _ => .horizontal
  | .custom cs => Config.cartHardwiredMirror cs

/-- `cart.getIrq` (R49, R50). -/
def cartGetIrq : Cart → Bool
  | .absent => false
  | .board _ => false
  | .custom cs => Config.cartGetIrq cs

/-- `cart.clearIrq` (R49, R50). -/
def cartClearIrq : Cart → Cart
  | .absent => .absent
  | .board m => .board m
  | .custom cs => .custom (Config.cartClearIrq cs)

/-- `cart.countScanline` (R49, R50). -/
def cartCountScanline : Cart → Cart
  | .absent => .absent
  | .board m => .board m
  | .custom cs => .custom (Config.cartCountScanline cs)

end Sys2Proof.Machine
end

