-- ==== Sys2Proof/Machine/Ppu.lean ====
section
/-! DEFINITION. The PPU's address space and its eight CPU-visible registers (spec/47_ppu.md R174-R190). Every
operation works on the PPU together with the cartridge its accesses go through first, so that nothing else of the
machine can change. -/

namespace Sys2Proof.Machine

/-- The PPU and the cartridge: all that a PPU bus access can reach (R174). -/
structure PpuBus where
  ppu : Ppu
  cart : Cart
deriving DecidableEq, Repr

/-- `rendering`: background or sprites are shown (R30). -/
def rendering (p : Ppu) : Bool := p.mask.getLsbD 3 || p.mask.getLsbD 4

/-! ### The PPU address space -/

/-- The mirroring in force: `hardwired` stands for the wiring the cartridge reports (R177). -/
def effectiveMirror (c : Cart) : MirrorMode :=
  match cartMirrorMode c with
  | .hardwired =>
    match cartHardwiredMirror c with
    | .horizontal => .horizontal
    | .vertical => .vertical
  | m => m

/-- The physical nametable of a quadrant (R177). -/
def physicalTable (m : MirrorMode) (quadrant : Nat) : Nat :=
  match m with
  | .hardwired => quadrant / 2
  | .horizontal => quadrant / 2
  | .vertical => quadrant % 2
  | .oneScreenLo => 0
  | .oneScreenHi => 1

/-- The key in `ppu.nt` of a PPU address in $2000-$3EFF: `1024 T + o` (R177). -/
def nametableKey (c : Cart) (a : BitVec 14) : Nat :=
  let i := (a.toNat - 0x2000) % 0x1000
  1024 * physicalTable (effectiveMirror c) (i / 1024) + i % 1024

/-- `P(a)`: the palette entry of an address in $3F00-$3FFF; entry 0 of a sprite palette is the background's (R178). -/
def paletteIndex (a : BitVec 14) : Nat :=
  let i := a.toNat % 32
  if i % 4 = 0 then i % 16 else i

/-- What the PPU's own memories answer at an address the cartridge does not claim (R175). -/
def ppuOwnRead (p : Ppu) (c : Cart) (a : BitVec 14) : Byte :=
  if a.toNat < 0x2000 then 0
  else if a.toNat < 0x3F00 then Memory.load p.nt (nametableKey c a)
  else (Memory.load p.pal (paletteIndex a)).setWidth 8

/-- `PpuRead` (R175): the cartridge is asked first. DESIGN CHOICE (log entry 25): `mirrorMode` is asked of the cartridge
state that this access's own `cart.ppuRead` leaves; R177 does not say whether a change by that very call acts now or at
the next access. -/
def ppuRead (b : PpuBus) (a : BitVec 14) : Byte × PpuBus :=
  let r := cartPpuRead b.cart a
  (r.1.getD (ppuOwnRead b.ppu r.2 a), { b with cart := r.2 })

/-- What a write does to the PPU's own memories at an address the cartridge does not claim (R176). -/
def ppuOwnWrite (p : Ppu) (c : Cart) (a : BitVec 14) (d : Byte) : Ppu :=
  if a.toNat < 0x2000 then p
  else if a.toNat < 0x3F00 then { p with nt := Memory.store p.nt (nametableKey c a) d }
  else { p with pal := Memory.store p.pal (paletteIndex a) (d.setWidth 6) }

/-- `PpuWrite` (R176): the cartridge is offered the write first. DESIGN CHOICE (log entry 25): `mirrorMode` is asked of
the cartridge state that this access's own `cart.ppuWrite` leaves, as in `ppuRead`. -/
def ppuWrite (b : PpuBus) (a : BitVec 14) (d : Byte) : PpuBus :=
  let r := cartPpuWrite b.cart a d
  { ppu := if r.1 then b.ppu else ppuOwnWrite b.ppu r.2 a d, cart := r.2 }

/-! ### OAM -/

/-- Bits 4:2 of an entry's attribute byte are not stored (R34). -/
def oamMask (index : Nat) (d : Byte) : Byte := if index % 4 = 2 then d &&& 0xE3#8 else d

/-- An OAM byte; attribute bits 4:2 read 0 (R34, R185). -/
def oamLoad (p : Ppu) (index : Nat) : Byte := oamMask index (Memory.load p.oam index)

/-! ### Register writes -/

/-- $2000: the nametable select enters `t` (R181). -/
def writePpuCtrl (p : Ppu) (d : Byte) : Ppu :=
  { p with ctrl := d, t := (p.t &&& ~~~0x0C00#15) ||| ((d &&& 3#8).setWidth 15 <<< 10) }

/-- $2001 (R182). -/
def writePpuMask (p : Ppu) (d : Byte) : Ppu := { p with mask := d }

/-- $2003 (R184). -/
def writeOamAddr (p : Ppu) (d : Byte) : Ppu := { p with oamAddr := d }

/-- $2004: stores the byte and moves the address on (R186). -/
def writeOamData (p : Ppu) (d : Byte) : Ppu :=
  { p with
    oam := Memory.store p.oam p.oamAddr.toNat (oamMask p.oamAddr.toNat d)
    oamAddr := p.oamAddr + 1 }

/-- $2005: X scroll, then Y scroll (R187). -/
def writePpuScroll (p : Ppu) (d : Byte) : Ppu :=
  if p.w then
    { p with
      t := (p.t &&& ~~~0x73E0#15) ||| ((d &&& 7#8).setWidth 15 <<< 12) ||| ((d >>> 3).setWidth 15 <<< 5)
      w := false }
  else
    { p with
      t := (p.t &&& ~~~0x001F#15) ||| (d >>> 3).setWidth 15
      x := d.setWidth 3
      w := true }

/-- $2006: the high byte into `t`, then the low byte into `t` and `t` into `v` (R188). -/
def writePpuAddr (p : Ppu) (d : Byte) : Ppu :=
  if p.w then
    let t := (p.t &&& 0x7F00#15) ||| d.setWidth 15
    { p with t := t, v := t, w := false }
  else
    { p with t := (p.t &&& 0x00FF#15) ||| ((d &&& 0x3F#8).setWidth 15 <<< 8), w := true }

/-- The step of `v` after a $2007 access (R189). -/
def vramIncrement (p : Ppu) : BitVec 15 := if p.ctrl.getLsbD 2 then 32 else 1

/-- `v` moved on after a $2007 access (R189, R190). -/
def advanceVram (p : Ppu) : Ppu := { p with v := p.v + vramIncrement p }

/-- $2007 write (R189). -/
def writePpuData (b : PpuBus) (d : Byte) : PpuBus :=
  let b' := ppuWrite b (b.ppu.v.setWidth 14) d
  { b' with ppu := advanceVram b'.ppu }

/-- A CPU write to PPU register `r` = 0..7 (R180). $2002 is read-only. -/
def ppuRegWrite (b : PpuBus) (r : BitVec 3) (d : Byte) : PpuBus :=
  match r.toNat with
  | 0 => { b with ppu := writePpuCtrl b.ppu d }
  | 1 => { b with ppu := writePpuMask b.ppu d }
  | 3 => { b with ppu := writeOamAddr b.ppu d }
  | 4 => { b with ppu := writeOamData b.ppu d }
  | 5 => { b with ppu := writePpuScroll b.ppu d }
  | 6 => { b with ppu := writePpuAddr b.ppu d }
  | 7 => writePpuData b d
  | _ => b

/-! ### Register reads -/

/-- The value of a $2002 read (R183). -/
def statusValue (p : Ppu) : Byte := p.status &&& 0xE0#8

/-- The side effect of a $2002 read: vblank and `w` are cleared (R183). -/
def statusCleared (p : Ppu) : Ppu := { p with status := p.status &&& 0x7F#8, w := false }

/-- The greyscale mask on a palette entry (R190, R204). -/
def greyscale (p : Ppu) (c : BitVec 6) : BitVec 6 := if p.mask.getLsbD 0 then c &&& 0x30#6 else c

/-- The value of a $2007 read: the buffer, or the palette entry at once (R190). -/
def dataValue (p : Ppu) : Byte :=
  let a := p.v.setWidth 14
  if a.toNat < 0x3F00 then p.readBuffer else (greyscale p (Memory.load p.pal (paletteIndex a))).setWidth 8

/-- The address whose byte refills the buffer: for a palette read, the nametable byte under it (R190). -/
def refillAddress (p : Ppu) : BitVec 14 :=
  let a := p.v.setWidth 14
  if a.toNat < 0x3F00 then a else a &&& 0x2FFF#14

/-- The side effect of a $2007 read: the buffer is refilled and `v` moves on (R190). -/
def dataRefilled (b : PpuBus) : PpuBus :=
  let r := ppuRead b (refillAddress b.ppu)
  { r.2 with ppu := advanceVram { r.2.ppu with readBuffer := r.1 } }

/-- The value a read of PPU register `r` = 0..7 returns, side effects apart (R179, R47). -/
def ppuRegValue (p : Ppu) (r : BitVec 3) : Byte :=
  match r.toNat with
  | 2 => statusValue p
  | 4 => oamLoad p p.oamAddr.toNat
  | 7 => dataValue p
  | _ => 0

/-- A CPU read of PPU register `r` = 0..7 (R179): the value and the machine after its side effect. -/
def ppuRegRead (b : PpuBus) (r : BitVec 3) : Byte × PpuBus :=
  (ppuRegValue b.ppu r,
   match r.toNat with
   | 2 => { b with ppu := statusCleared b.ppu }
   | 7 => dataRefilled b
   | _ => b)

end Sys2Proof.Machine
end

