-- ==== Sys2Proof/Machine/Io.lean ====
section
/-! DEFINITION. The controller ports (R244-R246), the start of an OAM DMA (R240), and the parts of the machine each
device register access can reach, as updates of the machine. -/

namespace Sys2Proof.Machine

/-! ### Updates of one part of the machine -/

/-- The machine with another CPU. -/
def State.setCpu (s : State) (c : Cpu) : State := { s with cpu := c }

/-- The machine with another PPU and cartridge. -/
def State.setPpuBus (s : State) (b : PpuBus) : State := { s with ppu := b.ppu, cart := b.cart }

/-- The PPU and the cartridge of the machine. -/
def State.ppuBus (s : State) : PpuBus := { ppu := s.ppu, cart := s.cart }

/-- The machine with another APU. -/
def State.setApu (s : State) (a : Apu) : State := { s with apu := a }

/-- The machine with another DMA engine. -/
def State.setDma (s : State) (d : Dma) : State := { s with dma := d }

/-- The machine with other controller ports. -/
def State.setCtrl (s : State) (c : Controllers) : State := { s with ctrl := c }

/-- The machine with another internal RAM. -/
def State.setRam (s : State) (m : List Host.Cell) : State := { s with ram := m }

/-- The machine with another cartridge. -/
def State.setCart (s : State) (c : Cart) : State := { s with cart := c }

/-! ### Controller ports -/

/-- The shift registers loaded from the buttons (R238 step (5), R245). -/
def loadPorts (c : Controllers) : Controllers := { c with shift0 := c.state0, shift1 := c.state1 }

/-- A $4016 write: bit 0 is the strobe (R245). -/
def writeStrobe (c : Controllers) (d : Byte) : Controllers :=
  let c := { c with strobe := d.getLsbD 0 }
  if d.getLsbD 0 then loadPorts c else c

/-- The byte a port read returns: the open-bus pattern with bit 7 of the shift register in bit 0 (R246). -/
def portByte (openBus shift : Byte) : Byte := (openBus &&& 0xFE#8) ||| (shift >>> 7)

/-- The side effect of a $4016 read: the shift register moves on unless the strobe holds it (R246). -/
def shiftPort0 (c : Controllers) : Controllers := if c.strobe then c else { c with shift0 := c.shift0 <<< 1 }

/-- The side effect of a $4017 read (R246). -/
def shiftPort1 (c : Controllers) : Controllers := if c.strobe then c else { c with shift1 := c.shift1 <<< 1 }

/-! ### OAM DMA -/

/-- A $4014 write in slot `slot`: the transfer's state, with one wait cycle, and one more when the next slot is odd
(R240). -/
def startDma (m : Dma) (slot : Nat) (d : Byte) : Dma :=
  { m with active := true, page := d, index := 0, phase := .read, wait := 1 + (slot + 1) % 2 }

end Sys2Proof.Machine
end

