-- ==== Sys2Proof/Machine/Bus.lean ====
section
/-! DEFINITION. The CPU bus (spec/20_memory.md R44-R48): what each of the 65536 addresses reads and writes, through
the cartridge first. -/

namespace Sys2Proof.Machine

/-- What an address is when the cartridge does not claim it (R45). -/
inductive Region where
  /-- $0000-$1FFF, with the index in the 2 KB of RAM. -/
  | ram (index : Nat)
  /-- $2000-$3FFF, with the PPU register. -/
  | ppu (register : BitVec 3)
  /-- $4000-$4013, with the register's number. -/
  | apu (register : Nat)
  /-- $4014. -/
  | oamDma
  /-- $4015. -/
  | apuStatus
  /-- $4016. -/
  | port0
  /-- $4017. -/
  | port1
  /-- $4018-$FFFF. -/
  | unmapped
deriving DecidableEq, Repr

/-- The address decoder with its two mirrors: RAM every 2 KB, PPU registers every 8 bytes (R45). -/
def regionOf (a : Word) : Region :=
  let n := a.toNat
  if n < 0x2000 then .ram (n % 0x800)
  else if n < 0x4000 then .ppu (a.setWidth 3)
  else if n < 0x4014 then .apu (n - 0x4000)
  else if n = 0x4014 then .oamDma
  else if n = 0x4015 then .apuStatus
  else if n = 0x4016 then .port0
  else if n = 0x4017 then .port1
  else .unmapped

/-- The value of a read the cartridge does not claim, side effects apart (R45, R47). -/
def ownValue (s : State) (a : Word) : Byte :=
  match regionOf a with
  | .ram i => Memory.load s.ram i
  | .ppu r => ppuRegValue s.ppu r
  | .apu _ => 0
  | .oamDma => 0
  | .apuStatus => apuStatus s.apu
  | .port0 => portByte s.params.ctrlOpenBus s.ctrl.shift0
  | .port1 => portByte s.params.ctrlOpenBus s.ctrl.shift1
  | .unmapped => 0

/-- The side effect of a read the cartridge does not claim (R45, R56). -/
def ownReadEffect (s : State) (a : Word) : State :=
  match regionOf a with
  | .ram _ => s
  | .ppu r => s.setPpuBus (ppuRegRead s.ppuBus r).2
  | .apu _ => s
  | .oamDma => s
  | .apuStatus => s.setApu (clearFrameIrq s.apu)
  | .port0 => s.setCtrl (shiftPort0 s.ctrl)
  | .port1 => s.setCtrl (shiftPort1 s.ctrl)
  | .unmapped => s

/-- `MemRead(addr, 1)` (R46): the byte and the machine after the read. A read never fails. -/
def memRead (s : State) (a : Word) : Byte × State :=
  let r := cartCpuRead s.cart a
  let s := s.setCart r.2
  match r.1 with
  | some v => (v, s)
  | none => (ownValue s a, ownReadEffect s a)

/-- `CpuRead(addr, readonly = true)` (R47): the byte a read would return, with no effect. -/
def peek (s : State) (a : Word) : Byte :=
  match (cartCpuRead s.cart a).1 with
  | some v => v
  | none => ownValue s a

/-- The effect of a write the cartridge does not claim (R45). -/
def ownWrite (s : State) (a : Word) (v : Byte) : State :=
  match regionOf a with
  | .ram i => s.setRam (Memory.store s.ram i v)
  | .ppu r => s.setPpuBus (ppuRegWrite s.ppuBus r v)
  | .apu r => s.setApu (apuRegWrite s.apu r v)
  | .oamDma => s.setDma (startDma s.dma s.cpuCycles v)
  | .apuStatus => s.setApu (apuRegWrite s.apu 21 v)
  | .port0 => s.setCtrl (writeStrobe s.ctrl v)
  | .port1 => s.setApu (apuRegWrite s.apu 23 v)
  | .unmapped => s

/-- `MemWrite(addr, 1, v)` (R48). A write never fails. -/
def memWrite (s : State) (a : Word) (v : Byte) : State :=
  let r := cartCpuWrite s.cart a v
  let s := s.setCart r.2
  if r.1 then s else ownWrite s a v

end Sys2Proof.Machine
end

