-- ==== Sys2Proof/Machine/Flags.lean ====
section
/-! DEFINITION. The status byte and every computation of flags the spec gives: the flag positions (R22), SetNZ (R14),
the adder (R102), the comparator (R104), the bit test (R113), the shifts and rotates (R114-R117) and the three
immediate combinations that set C or V by their own rule (R159-R162). All are functions of bytes, with no state. -/

namespace Sys2Proof.Machine

/-- The eight flags of P (R22). -/
inductive Flag where
  | c
  | z
  | i
  | d
  | b
  | u
  | v
  | n
deriving DecidableEq, Repr

/-- The bit of P each flag is (R22). -/
def flagBit : Flag → Nat
  | .c => 0
  | .z => 1
  | .i => 2
  | .d => 3
  | .b => 4
  | .u => 5
  | .v => 6
  | .n => 7

/-- The byte with one bit set, at the flag's place (R22). -/
def flagMask (f : Flag) : Byte := 1#8 <<< flagBit f

/-- `P.f` (R13). -/
def getFlag (p : Byte) (f : Flag) : Bool := p.getLsbD (flagBit f)

/-- `P.f <- v`, the other seven bits unchanged (R13). -/
def setFlag (p : Byte) (f : Flag) (v : Bool) : Byte := if v then p ||| flagMask f else p &&& ~~~flagMask f

/-- SetNZ: N is bit 7 of the value, Z says that it is 0 (R14). -/
def setNZ (p v : Byte) : Byte := setFlag (setFlag p .n (v.getLsbD 7)) .z (v == 0)

/-- The bit 1 or 0 as a byte. -/
def bitByte (b : Bool) : Byte := if b then 1 else 0

/-- The 9-bit sum of the adder (R102). -/
def addSum (a m : Byte) (c : Bool) : BitVec 9 := a.setWidth 9 + m.setWidth 9 + (bitByte c).setWidth 9

/-- The adder's result byte (R102). D never matters (R103). -/
def addResult (a m : Byte) (c : Bool) : Byte := (addSum a m c).setWidth 8

/-- The adder's C: bit 8 of the sum (R102). -/
def addCarry (a m : Byte) (c : Bool) : Bool := (addSum a m c).getLsbD 8

/-- The adder's V: the sum's sign differs from both operands' signs (R102). -/
def addOverflow (a m : Byte) (c : Bool) : Bool :=
  ((a ^^^ addResult a m c) &&& (m ^^^ addResult a m c)).getLsbD 7

/-- The status after the adder: C, V and SetNZ of the result (R102). -/
def addFlags (p a m : Byte) : Byte :=
  let c := getFlag p .c
  setNZ (setFlag (setFlag p .c (addCarry a m c)) .v (addOverflow a m c)) (addResult a m c)

/-- The status after the comparator: C is the unsigned `r >= m`, Z the equality, N bit 7 of `r - m`; V is unchanged
(R104). -/
def compareFlags (p r m : Byte) : Byte :=
  setFlag (setFlag (setFlag p .c (decide (m.toNat ≤ r.toNat))) .z (r == m)) .n ((r - m).getLsbD 7)

/-- The status after BIT: Z from the and with A, N and V copied from bits 7 and 6 of the operand (R113). -/
def bitFlags (p a m : Byte) : Byte :=
  setFlag (setFlag (setFlag p .z (a &&& m == 0)) .n (m.getLsbD 7)) .v (m.getLsbD 6)

/-- ASL: the shifted byte, and P with C from bit 7 (R114). -/
def aslOp (v p : Byte) : Byte × Byte := (v <<< 1, setFlag p .c (v.getLsbD 7))

/-- LSR: the shifted byte, and P with C from bit 0 (R115). -/
def lsrOp (v p : Byte) : Byte × Byte := (v >>> 1, setFlag p .c (v.getLsbD 0))

/-- ROL: the old C enters at bit 0, bit 7 leaves to C (R116). -/
def rolOp (v p : Byte) : Byte × Byte := ((v <<< 1) ||| bitByte (getFlag p .c), setFlag p .c (v.getLsbD 7))

/-- ROR: the old C enters at bit 7, bit 0 leaves to C (R117). -/
def rorOp (v p : Byte) : Byte × Byte :=
  ((v >>> 1) ||| (bitByte (getFlag p .c) <<< 7), setFlag p .c (v.getLsbD 0))

/-- INC: the next byte modulo 256, C unchanged (R118). -/
def incOp (v p : Byte) : Byte × Byte := (v + 1, p)

/-- DEC: the previous byte modulo 256, C unchanged (R119). -/
def decOp (v p : Byte) : Byte × Byte := (v - 1, p)

/-- ARR's result: the and of A and the operand rotated right through C (R161). -/
def arrResult (p a m : Byte) : Byte := ((a &&& m) >>> 1) ||| (bitByte (getFlag p .c) <<< 7)

/-- ARR's status: SetNZ, C from bit 6 of the result, V from bit 6 xor bit 5 (R161). -/
def arrFlags (p a m : Byte) : Byte :=
  let r := arrResult p a m
  setFlag (setFlag (setNZ p r) .c (r.getLsbD 6)) .v (r.getLsbD 6 ^^ r.getLsbD 5)

/-- What PLP and RTI store from a pulled byte: B = 0 and U = 1 forced (R23, R136, R141). -/
def pulledStatus (v : Byte) : Byte := (v &&& 0xCF#8) ||| 0x20#8

/-- What PHP and BRK push: B = 1 and U = 1 (R23, R137, R139). -/
def pushedByProgram (p : Byte) : Byte := p ||| 0x30#8

/-- What an NMI or IRQ entry pushes: B = 0 and U = 1 (R23, R254). -/
def pushedByInterrupt (p : Byte) : Byte := (p &&& 0xEF#8) ||| 0x20#8

end Sys2Proof.Machine
end

