-- ==== Sys2Proof/Machine/Ops.lean ====
section
/-! DEFINITION. The operations instructions and interrupt entries share: register writes, the stack (R14, R21), word
reads (R14), taking an interrupt or a reset (R251-R258), the return from one (R259), and power-on (R269). -/

namespace Sys2Proof.Machine

/-! ### Registers -/

/-- `A <- v`. -/
def State.setA (s : State) (v : Byte) : State := { s with cpu := { s.cpu with a := v } }

/-- `X <- v`. -/
def State.setX (s : State) (v : Byte) : State := { s with cpu := { s.cpu with x := v } }

/-- `Y <- v`. -/
def State.setY (s : State) (v : Byte) : State := { s with cpu := { s.cpu with y := v } }

/-- `SP <- v`. -/
def State.setSp (s : State) (v : Byte) : State := { s with cpu := { s.cpu with sp := v } }

/-- `PC <- a`. -/
def State.setPc (s : State) (a : Word) : State := { s with cpu := { s.cpu with pc := a } }

/-- `P <- v`. -/
def State.setP (s : State) (v : Byte) : State := { s with cpu := { s.cpu with p := v } }

/-- `cpu.budget <- n`. -/
def State.setBudget (s : State) (n : Nat) : State := { s with cpu := { s.cpu with budget := n } }

/-- `cpu.nmiPending <- b`. -/
def State.setNmiPending (s : State) (b : Bool) : State := { s with cpu := { s.cpu with nmiPending := b } }

/-- `cpu.irqLine <- b`. -/
def State.setIrqLine (s : State) (b : Bool) : State := { s with cpu := { s.cpu with irqLine := b } }

/-- `cpu.jammed <- b`. -/
def State.setJammed (s : State) (b : Bool) : State := { s with cpu := { s.cpu with jammed := b } }

/-- `SetNZ(v)` on the machine's P (R14). -/
def State.updateNZ (s : State) (v : Byte) : State := s.setP (setNZ s.cpu.p v)

/-! ### Stack and word reads -/

/-- The stack cell of a stack pointer: page 1 (R21). -/
def stackAddress (sp : Byte) : Word := wordOf 1#8 sp

/-- `Push(v)` (R14). -/
def push (s : State) (v : Byte) : State :=
  (memWrite s (stackAddress s.cpu.sp) v).setSp (s.cpu.sp - 1)

/-- Pushes a word, high byte first, so that it lies low byte first (R53, R134). -/
def pushWord (s : State) (a : Word) : State := push (push s (hiByte a)) (loByte a)

/-- `Pull()` (R14): the byte and the machine after it. -/
def pull (s : State) : Byte × State :=
  memRead (s.setSp (s.cpu.sp + 1)) (stackAddress (s.cpu.sp + 1))

/-- Pulls a word, low byte first (R135). -/
def pullWord (s : State) : Word × State :=
  let lo := pull s
  let hi := pull lo.2
  (wordOf hi.1 lo.1, hi.2)

/-- Reads the word whose low byte is at `lo` and whose high byte is at `hi`, the low byte first (R54, R57). -/
def readPair (s : State) (lo hi : Word) : Word × State :=
  let l := memRead s lo
  let h := memRead l.2 hi
  (wordOf h.1 l.1, h.2)

/-- `Read16(addr)` (R14). -/
def read16 (s : State) (a : Word) : Word × State := readPair s a (a + 1)

/-! ### Taking an interrupt (R251-R256) -/

/-- The NMI vector (R51). -/
def nmiVector : Word := 0xFFFA#16

/-- The reset vector (R51). -/
def resetVector : Word := 0xFFFC#16

/-- The IRQ and BRK vector (R51). -/
def irqVector : Word := 0xFFFE#16

/-- Taking an interrupt, the operation NMI, IRQ and BRK share (R137, R254): the return address and the status byte are
pushed, I is set, PC comes from the vector, and 7 cycles are spent. -/
def enter (s : State) (vector returnTo : Word) (status : Byte) : State :=
  let s := push (pushWord s returnTo) status
  let s := s.setP (setFlag s.cpu.p .i true)
  let r := read16 s vector
  (r.2.setPc r.1).setBudget 7

/-- The NMI entry (R255). -/
def nmiEntry (s : State) : State :=
  enter (s.setNmiPending false) nmiVector s.cpu.pc (pushedByInterrupt s.cpu.p)

/-- With MAPPER_IRQ_ACK = `clear_on_delivery`, the cartridge's IRQ is cleared when an IRQ entry is taken while it is
asserted; with `level` nothing happens (R243). -/
def acknowledgeIrq (s : State) : State :=
  match s.params.mapperIrqAck with
  | .level => s
  | .clearOnDelivery => if cartGetIrq s.cart then s.setCart (cartClearIrq s.cart) else s

/-- The IRQ entry (R256). -/
def irqEntry (s : State) : State :=
  enter (acknowledgeIrq s) irqVector s.cpu.pc (pushedByInterrupt s.cpu.p)

/-- BRK's entry: the software interrupt (R137, R258). PC is the address after the opcode byte and the return address
skips one byte more. -/
def brkEntry (s : State) : State :=
  enter s irqVector (s.cpu.pc + 1) (pushedByProgram s.cpu.p)

/-- The return from NMI, IRQ or BRK (R136, R259). -/
def interruptReturn (s : State) : State :=
  let p := pull s
  let w := pullWord (p.2.setP (pulledStatus p.1))
  w.2.setPc w.1

/-! ### Reset and power-on (R257, R269-R271) -/

/-- The CPU's `Reset()` (R257). DESIGN CHOICE (log entry 26): the two vector reads are bus reads (R14), and the cartridge
state they leave stays, although R270 and R271 call the cartridge unchanged by a soft reset. -/
def resetEntry (s : State) : State :=
  let r := read16 s resetVector
  let c := r.2.cpu
  r.2.setCpu { c with
    pc := r.1
    sp := c.sp - 3
    p := setFlag c.p .i true
    nmiPending := false
    jammed := false
    budget := 7 }

/-- Power-on with a cartridge, the host's button bytes and a choice of parameters (R269). -/
def powerOn (cart : Cart) (state0 state1 : Byte) (k : Params) : State :=
  resetEntry
    { cpu := Cpu.powerOn
      ppu := Ppu.powerOn
      apu := Apu.powerOn
      dma := Dma.powerOn
      ctrl := Controllers.powerOn state0 state1
      ram := []
      cart := cart
      tick := 0
      cpuCycles := 0
      params := k }

/-- The host's soft reset (R271): a DMA transfer is abandoned and the CPU is reset; under `cpu_ppu_apu` the PPU and the
APU take their power-on values first. The cartridge changes by the vector reads at most (log entry 26). -/
def softReset (s : State) : State :=
  let s :=
    match s.params.resetScope with
    | .cpuOnly => s
    | .cpuPpuApu => { s with ppu := Ppu.powerOn, apu := Apu.powerOn }
  resetEntry (s.setDma { s.dma with active := false })

end Sys2Proof.Machine
end

