-- ==== Sys2Proof/Machine/Operands.lean ====
section
/-! DEFINITION. The addressing modes (spec/40_addressing_modes.md R75-R88) and the shapes of instruction built on
them: read, store, read-modify-write, high-byte store and branch, each with its cycle count (R70). In every shape PC is
already the address of the next instruction (R20). -/

namespace Sys2Proof.Machine

/-- An operand in memory, by its addressing mode (R79-R87). -/
inductive MemOperand where
  | zp (z : Byte)
  | zpx (z : Byte)
  | zpy (z : Byte)
  | abs (a : Word)
  | abx (base : Word)
  | aby (base : Word)
  | izx (z : Byte)
  | izy (z : Byte)
deriving DecidableEq, Repr

/-- What a memory mode yields (R75, R83, R87): the base address before indexing and the effective address. -/
structure Effective where
  base : Word
  ea : Word
deriving DecidableEq, Repr

/-- `zext_16` of a zero-page address (R66). -/
def zeroPage (z : Byte) : Word := wordOf 0#8 z

/-- The base indexed by an unsigned byte, modulo 65536 (R66, R83, R84, R87). -/
def indexed (base : Word) (index : Byte) : Effective := { base := base, ea := base + index.setWidth 16 }

/-- An address that no index changes. -/
def direct (a : Word) : Effective := { base := a, ea := a }

/-- `crossed`: the effective address lies in another page than the base (R83). -/
def crossed (e : Effective) : Bool := hiByte e.ea != hiByte e.base

/-- The word of a zero-page pointer, whose second byte wraps within the page (R54, R86, R87). -/
def readPointer (s : State) (z : Byte) : Word × State := readPair s (zeroPage z) (zeroPage (z + 1))

/-- Running an addressing mode (R79-R87): the effective address, and the machine after the pointer reads. -/
def effective (s : State) : MemOperand → Effective × State
  | .zp z => (direct (zeroPage z), s)
  | .zpx z => (direct (zeroPage (z + s.cpu.x)), s)
  | .zpy z => (direct (zeroPage (z + s.cpu.y)), s)
  | .abs a => (direct a, s)
  | .abx base => (indexed base s.cpu.x, s)
  | .aby base => (indexed base s.cpu.y, s)
  | .izx z =>
    let r := readPointer s (z + s.cpu.x)
    (direct r.1, r.2)
  | .izy z =>
    let r := readPointer s z
    (indexed r.1 s.cpu.y, r.2)

/-- The target of `JMP ($hhll)`: the pointer's second byte comes from the same page (R85). -/
def indirectTarget (s : State) (ptr : Word) : Word × State := readPair s ptr (wordOf (hiByte ptr) (loByte ptr + 1))

/-- The cycle count of a reading instruction: the base count, and 1 more when a page is crossed and the opcode has the
`page` penalty (R70, R75). -/
def readCycles (base : Nat) (page : Bool) (e : Effective) : Nat := if page && crossed e then base + 1 else base

/-- The outcome of an instruction on a value that needs no memory access: implied, accumulator or immediate. -/
def finish (s : State) (cycles : Nat) : Host.Outcome State Fault Refusal := .next (s.setBudget cycles)

/-- A reading instruction on an operand in memory: `op` of the byte read (R75). -/
def execRead (o : MemOperand) (base : Nat) (page : Bool) (op : State → Byte → State) (s : State) :
    Host.Outcome State Fault Refusal :=
  let e := effective s o
  let v := memRead e.2 e.1.ea
  finish (op v.2 v.1) (readCycles base page e.1)

/-- A store of a register value: one write, no read of the destination (R75, R92). -/
def execStore (o : MemOperand) (base : Nat) (value : Cpu → Byte) (s : State) : Host.Outcome State Fault Refusal :=
  let e := effective s o
  finish (memWrite e.2 e.1.ea (value s.cpu)) base

/-- A read-modify-write: one read, `modify` of the byte and P, one write of its result, then `after` of the byte
written (R75, R58, R150). -/
def execModify (o : MemOperand) (base : Nat) (modify : Byte → Byte → Byte × Byte) (after : State → Byte → State)
    (s : State) : Host.Outcome State Fault Refusal :=
  let e := effective s o
  let v := memRead e.2 e.1.ea
  let r := modify v.1 v.2.cpu.p
  finish (after ((memWrite v.2 e.1.ea r.1).setP r.2) r.1) base

/-- The accumulator form of a shift or rotate (R77). -/
def execModifyA (base : Nat) (modify : Byte → Byte → Byte × Byte) (s : State) : Host.Outcome State Fault Refusal :=
  let r := modify s.cpu.a s.cpu.p
  finish (((s.setP r.2).setA r.1).updateNZ r.1) base

/-- What a high-byte store writes: the register anded with the base's high byte plus 1 (R166). -/
def highStoreValue (e : Effective) (reg : Byte) : Byte := reg &&& (hiByte e.base + 1)

/-- Where a high-byte store writes: on a page cross the address's high byte is the value (R166). -/
def highStoreAddress (e : Effective) (reg : Byte) : Word :=
  if crossed e then wordOf (highStoreValue e reg) (loByte e.ea) else e.ea

/-- The five unstable high-byte stores under SH_POLICY (R166); `before` is what the instruction does to the registers
first (TAS writes SP). -/
def execHighStore (opcode : Byte) (o : MemOperand) (base : Nat) (before : State → State) (reg : Cpu → Byte)
    (s : State) : Host.Outcome State Fault Refusal :=
  match s.params.shPolicy with
  | .refuse => .refused (.unstableStore opcode)
  | .formula =>
    let e := effective (before s) o
    let r := reg e.2.cpu
    finish (memWrite e.2 (highStoreAddress e.1 r) (highStoreValue e.1 r)) base

/-- A branch's target: the displacement is signed and counts from the next instruction (R66, R88). -/
def branchTarget (pc : Word) (off : Byte) : Word := pc + off.signExtend 16

/-- A conditional branch (R124): 2 cycles, 3 when taken, 4 when taken to another page. -/
def execBranch (off : Byte) (f : Flag) (value : Bool) (s : State) : Host.Outcome State Fault Refusal :=
  let target := branchTarget s.cpu.pc off
  if getFlag s.cpu.p f = value then
    finish (s.setPc target) (if hiByte target = hiByte s.cpu.pc then 3 else 4)
  else finish s 2

/-- A JAM opcode under JAM_POLICY (R172). PC is already the opcode's address plus 1. -/
def execJam (opcode : Byte) (s : State) : Host.Outcome State Fault Refusal :=
  match s.params.jamPolicy with
  | .halt => .next (s.setJammed true)
  | .fault => .fault (.jam opcode)

/-! ### Accumulator operations on a byte -/

/-- `A <- v; SetNZ(A)`. -/
def loadA (s : State) (v : Byte) : State := (s.setA v).updateNZ v

/-- `X <- v; SetNZ(X)`. -/
def loadX (s : State) (v : Byte) : State := (s.setX v).updateNZ v

/-- `Y <- v; SetNZ(Y)`. -/
def loadY (s : State) (v : Byte) : State := (s.setY v).updateNZ v

/-- `AddC(A, m, C)` (R102). -/
def adcA (s : State) (m : Byte) : State :=
  (s.setA (addResult s.cpu.a m (getFlag s.cpu.p .c))).setP (addFlags s.cpu.p s.cpu.a m)

/-- `AddC(A, m XOR $FF, C)` (R106). -/
def sbcA (s : State) (m : Byte) : State := adcA s (m ^^^ 0xFF#8)

/-- `A <- A AND m; SetNZ(A)` (R107). -/
def andA (s : State) (m : Byte) : State := loadA s (s.cpu.a &&& m)

/-- `A <- A OR m; SetNZ(A)` (R108). -/
def oraA (s : State) (m : Byte) : State := loadA s (s.cpu.a ||| m)

/-- `A <- A XOR m; SetNZ(A)` (R109). -/
def eorA (s : State) (m : Byte) : State := loadA s (s.cpu.a ^^^ m)

/-- `Compare(A, m)` (R104). -/
def compareA (s : State) (m : Byte) : State := s.setP (compareFlags s.cpu.p s.cpu.a m)

/-- `Compare(X, m)` (R111). -/
def compareX (s : State) (m : Byte) : State := s.setP (compareFlags s.cpu.p s.cpu.x m)

/-- `Compare(Y, m)` (R112). -/
def compareY (s : State) (m : Byte) : State := s.setP (compareFlags s.cpu.p s.cpu.y m)

/-- BIT's effect (R113). -/
def testBits (s : State) (m : Byte) : State := s.setP (bitFlags s.cpu.p s.cpu.a m)

/-- LAX's effect: A and X at once (R158). -/
def loadAX (s : State) (v : Byte) : State := ((s.setA v).setX v).updateNZ v

/-- LAR's effect on A, X and SP (R165). -/
def loadAXSp (s : State) (m : Byte) : State :=
  let v := m &&& s.cpu.sp
  (((s.setA v).setX v).setSp v).updateNZ v

/-- A read whose byte is ignored: the memory NOPs (R171). -/
def ignoreByte (s : State) (_ : Byte) : State := s

/-- `SetNZ` of a byte already stored: the end of a plain read-modify-write (R114-R119). -/
def flagsOfByte (s : State) (r : Byte) : State := s.updateNZ r

end Sys2Proof.Machine
end

