-- ==== Sys2Proof/Machine/Arith.lean ====
section
/-! DEFINITION. Arithmetic, logic, compare and bit test (spec/42_arithmetic_logic.md R101-R113).
One meaning per opcode, over the shapes and operations of Operands.lean and Ops.lean; PC is already the address of the
next instruction (R20). -/

namespace Sys2Proof.Machine

/-- `ADC ($nn,X)`, $61, 6 cycles (R105, R86). -/
def execAdcIzx (zp : Byte) (s : State) : Host.Outcome State Fault Refusal :=
  execRead (.izx zp) 6 false adcA s

/-- `ADC $nn`, $65, 3 cycles (R105, R79). -/
def execAdcZp (zp : Byte) (s : State) : Host.Outcome State Fault Refusal :=
  execRead (.zp zp) 3 false adcA s

/-- `ADC #$nn`, $69, 2 cycles (R105, R78). -/
def execAdcImm (imm : Byte) (s : State) : Host.Outcome State Fault Refusal :=
  finish (adcA s imm) 2

/-- `ADC $hhll`, $6D, 4 cycles (R105, R82). -/
def execAdcAbs (addr : Word) (s : State) : Host.Outcome State Fault Refusal :=
  execRead (.abs addr) 4 false adcA s

/-- `ADC ($nn),Y`, $71, 5 cycles and 1 more on a page cross (R105, R87). -/
def execAdcIzy (zp : Byte) (s : State) : Host.Outcome State Fault Refusal :=
  execRead (.izy zp) 5 true adcA s

/-- `ADC $nn,X`, $75, 4 cycles (R105, R80). -/
def execAdcZpx (zp : Byte) (s : State) : Host.Outcome State Fault Refusal :=
  execRead (.zpx zp) 4 false adcA s

/-- `ADC $hhll,Y`, $79, 4 cycles and 1 more on a page cross (R105, R84). -/
def execAdcAby (base : Word) (s : State) : Host.Outcome State Fault Refusal :=
  execRead (.aby base) 4 true adcA s

/-- `ADC $hhll,X`, $7D, 4 cycles and 1 more on a page cross (R105, R83). -/
def execAdcAbx (base : Word) (s : State) : Host.Outcome State Fault Refusal :=
  execRead (.abx base) 4 true adcA s

/-- `SBC ($nn,X)`, $E1, 6 cycles (R106, R86). -/
def execSbcIzx (zp : Byte) (s : State) : Host.Outcome State Fault Refusal :=
  execRead (.izx zp) 6 false sbcA s

/-- `SBC $nn`, $E5, 3 cycles (R106, R79). -/
def execSbcZp (zp : Byte) (s : State) : Host.Outcome State Fault Refusal :=
  execRead (.zp zp) 3 false sbcA s

/-- `SBC #$nn`, $E9, 2 cycles (R106, R78). -/
def execSbcImm (imm : Byte) (s : State) : Host.Outcome State Fault Refusal :=
  finish (sbcA s imm) 2

/-- `SBC #$nn`, $EB, 2 cycles (R106, R78). -/
def execSbcImmEB (imm : Byte) (s : State) : Host.Outcome State Fault Refusal :=
  finish (sbcA s imm) 2

/-- `SBC $hhll`, $ED, 4 cycles (R106, R82). -/
def execSbcAbs (addr : Word) (s : State) : Host.Outcome State Fault Refusal :=
  execRead (.abs addr) 4 false sbcA s

/-- `SBC ($nn),Y`, $F1, 5 cycles and 1 more on a page cross (R106, R87). -/
def execSbcIzy (zp : Byte) (s : State) : Host.Outcome State Fault Refusal :=
  execRead (.izy zp) 5 true sbcA s

/-- `SBC $nn,X`, $F5, 4 cycles (R106, R80). -/
def execSbcZpx (zp : Byte) (s : State) : Host.Outcome State Fault Refusal :=
  execRead (.zpx zp) 4 false sbcA s

/-- `SBC $hhll,Y`, $F9, 4 cycles and 1 more on a page cross (R106, R84). -/
def execSbcAby (base : Word) (s : State) : Host.Outcome State Fault Refusal :=
  execRead (.aby base) 4 true sbcA s

/-- `SBC $hhll,X`, $FD, 4 cycles and 1 more on a page cross (R106, R83). -/
def execSbcAbx (base : Word) (s : State) : Host.Outcome State Fault Refusal :=
  execRead (.abx base) 4 true sbcA s

/-- `AND ($nn,X)`, $21, 6 cycles (R107, R86). -/
def execAndIzx (zp : Byte) (s : State) : Host.Outcome State Fault Refusal :=
  execRead (.izx zp) 6 false andA s

/-- `AND $nn`, $25, 3 cycles (R107, R79). -/
def execAndZp (zp : Byte) (s : State) : Host.Outcome State Fault Refusal :=
  execRead (.zp zp) 3 false andA s

/-- `AND #$nn`, $29, 2 cycles (R107, R78). -/
def execAndImm (imm : Byte) (s : State) : Host.Outcome State Fault Refusal :=
  finish (andA s imm) 2

/-- `AND $hhll`, $2D, 4 cycles (R107, R82). -/
def execAndAbs (addr : Word) (s : State) : Host.Outcome State Fault Refusal :=
  execRead (.abs addr) 4 false andA s

/-- `AND ($nn),Y`, $31, 5 cycles and 1 more on a page cross (R107, R87). -/
def execAndIzy (zp : Byte) (s : State) : Host.Outcome State Fault Refusal :=
  execRead (.izy zp) 5 true andA s

/-- `AND $nn,X`, $35, 4 cycles (R107, R80). -/
def execAndZpx (zp : Byte) (s : State) : Host.Outcome State Fault Refusal :=
  execRead (.zpx zp) 4 false andA s

/-- `AND $hhll,Y`, $39, 4 cycles and 1 more on a page cross (R107, R84). -/
def execAndAby (base : Word) (s : State) : Host.Outcome State Fault Refusal :=
  execRead (.aby base) 4 true andA s

/-- `AND $hhll,X`, $3D, 4 cycles and 1 more on a page cross (R107, R83). -/
def execAndAbx (base : Word) (s : State) : Host.Outcome State Fault Refusal :=
  execRead (.abx base) 4 true andA s

/-- `ORA ($nn,X)`, $01, 6 cycles (R108, R86). -/
def execOraIzx (zp : Byte) (s : State) : Host.Outcome State Fault Refusal :=
  execRead (.izx zp) 6 false oraA s

/-- `ORA $nn`, $05, 3 cycles (R108, R79). -/
def execOraZp (zp : Byte) (s : State) : Host.Outcome State Fault Refusal :=
  execRead (.zp zp) 3 false oraA s

/-- `ORA #$nn`, $09, 2 cycles (R108, R78). -/
def execOraImm (imm : Byte) (s : State) : Host.Outcome State Fault Refusal :=
  finish (oraA s imm) 2

/-- `ORA $hhll`, $0D, 4 cycles (R108, R82). -/
def execOraAbs (addr : Word) (s : State) : Host.Outcome State Fault Refusal :=
  execRead (.abs addr) 4 false oraA s

/-- `ORA ($nn),Y`, $11, 5 cycles and 1 more on a page cross (R108, R87). -/
def execOraIzy (zp : Byte) (s : State) : Host.Outcome State Fault Refusal :=
  execRead (.izy zp) 5 true oraA s

/-- `ORA $nn,X`, $15, 4 cycles (R108, R80). -/
def execOraZpx (zp : Byte) (s : State) : Host.Outcome State Fault Refusal :=
  execRead (.zpx zp) 4 false oraA s

/-- `ORA $hhll,Y`, $19, 4 cycles and 1 more on a page cross (R108, R84). -/
def execOraAby (base : Word) (s : State) : Host.Outcome State Fault Refusal :=
  execRead (.aby base) 4 true oraA s

/-- `ORA $hhll,X`, $1D, 4 cycles and 1 more on a page cross (R108, R83). -/
def execOraAbx (base : Word) (s : State) : Host.Outcome State Fault Refusal :=
  execRead (.abx base) 4 true oraA s

/-- `EOR ($nn,X)`, $41, 6 cycles (R109, R86). -/
def execEorIzx (zp : Byte) (s : State) : Host.Outcome State Fault Refusal :=
  execRead (.izx zp) 6 false eorA s

/-- `EOR $nn`, $45, 3 cycles (R109, R79). -/
def execEorZp (zp : Byte) (s : State) : Host.Outcome State Fault Refusal :=
  execRead (.zp zp) 3 false eorA s

/-- `EOR #$nn`, $49, 2 cycles (R109, R78). -/
def execEorImm (imm : Byte) (s : State) : Host.Outcome State Fault Refusal :=
  finish (eorA s imm) 2

/-- `EOR $hhll`, $4D, 4 cycles (R109, R82). -/
def execEorAbs (addr : Word) (s : State) : Host.Outcome State Fault Refusal :=
  execRead (.abs addr) 4 false eorA s

/-- `EOR ($nn),Y`, $51, 5 cycles and 1 more on a page cross (R109, R87). -/
def execEorIzy (zp : Byte) (s : State) : Host.Outcome State Fault Refusal :=
  execRead (.izy zp) 5 true eorA s

/-- `EOR $nn,X`, $55, 4 cycles (R109, R80). -/
def execEorZpx (zp : Byte) (s : State) : Host.Outcome State Fault Refusal :=
  execRead (.zpx zp) 4 false eorA s

/-- `EOR $hhll,Y`, $59, 4 cycles and 1 more on a page cross (R109, R84). -/
def execEorAby (base : Word) (s : State) : Host.Outcome State Fault Refusal :=
  execRead (.aby base) 4 true eorA s

/-- `EOR $hhll,X`, $5D, 4 cycles and 1 more on a page cross (R109, R83). -/
def execEorAbx (base : Word) (s : State) : Host.Outcome State Fault Refusal :=
  execRead (.abx base) 4 true eorA s

/-- `CMP ($nn,X)`, $C1, 6 cycles (R110, R86). -/
def execCmpIzx (zp : Byte) (s : State) : Host.Outcome State Fault Refusal :=
  execRead (.izx zp) 6 false compareA s

/-- `CMP $nn`, $C5, 3 cycles (R110, R79). -/
def execCmpZp (zp : Byte) (s : State) : Host.Outcome State Fault Refusal :=
  execRead (.zp zp) 3 false compareA s

/-- `CMP #$nn`, $C9, 2 cycles (R110, R78). -/
def execCmpImm (imm : Byte) (s : State) : Host.Outcome State Fault Refusal :=
  finish (compareA s imm) 2

/-- `CMP $hhll`, $CD, 4 cycles (R110, R82). -/
def execCmpAbs (addr : Word) (s : State) : Host.Outcome State Fault Refusal :=
  execRead (.abs addr) 4 false compareA s

/-- `CMP ($nn),Y`, $D1, 5 cycles and 1 more on a page cross (R110, R87). -/
def execCmpIzy (zp : Byte) (s : State) : Host.Outcome State Fault Refusal :=
  execRead (.izy zp) 5 true compareA s

/-- `CMP $nn,X`, $D5, 4 cycles (R110, R80). -/
def execCmpZpx (zp : Byte) (s : State) : Host.Outcome State Fault Refusal :=
  execRead (.zpx zp) 4 false compareA s

/-- `CMP $hhll,Y`, $D9, 4 cycles and 1 more on a page cross (R110, R84). -/
def execCmpAby (base : Word) (s : State) : Host.Outcome State Fault Refusal :=
  execRead (.aby base) 4 true compareA s

/-- `CMP $hhll,X`, $DD, 4 cycles and 1 more on a page cross (R110, R83). -/
def execCmpAbx (base : Word) (s : State) : Host.Outcome State Fault Refusal :=
  execRead (.abx base) 4 true compareA s

/-- `CPX #$nn`, $E0, 2 cycles (R111, R78). -/
def execCpxImm (imm : Byte) (s : State) : Host.Outcome State Fault Refusal :=
  finish (compareX s imm) 2

/-- `CPX $nn`, $E4, 3 cycles (R111, R79). -/
def execCpxZp (zp : Byte) (s : State) : Host.Outcome State Fault Refusal :=
  execRead (.zp zp) 3 false compareX s

/-- `CPX $hhll`, $EC, 4 cycles (R111, R82). -/
def execCpxAbs (addr : Word) (s : State) : Host.Outcome State Fault Refusal :=
  execRead (.abs addr) 4 false compareX s

/-- `CPY #$nn`, $C0, 2 cycles (R112, R78). -/
def execCpyImm (imm : Byte) (s : State) : Host.Outcome State Fault Refusal :=
  finish (compareY s imm) 2

/-- `CPY $nn`, $C4, 3 cycles (R112, R79). -/
def execCpyZp (zp : Byte) (s : State) : Host.Outcome State Fault Refusal :=
  execRead (.zp zp) 3 false compareY s

/-- `CPY $hhll`, $CC, 4 cycles (R112, R82). -/
def execCpyAbs (addr : Word) (s : State) : Host.Outcome State Fault Refusal :=
  execRead (.abs addr) 4 false compareY s

/-- `BIT $nn`, $24, 3 cycles (R113, R79). -/
def execBitZp (zp : Byte) (s : State) : Host.Outcome State Fault Refusal :=
  execRead (.zp zp) 3 false testBits s

/-- `BIT $hhll`, $2C, 4 cycles (R113, R82). -/
def execBitAbs (addr : Word) (s : State) : Host.Outcome State Fault Refusal :=
  execRead (.abs addr) 4 false testBits s

end Sys2Proof.Machine
end

