-- ==== Sys2Proof/Machine/Control.lean ====
section
/-! DEFINITION. Branches, jumps, subroutines, BRK and RTI (spec/44_control_transfer.md R124-R137).
One meaning per opcode, over the shapes and operations of Operands.lean and Ops.lean; PC is already the address of the
next instruction (R20). -/

namespace Sys2Proof.Machine

/-- `BCC label`, $90, 2 cycles and up to 2 more (R125, R88). -/
def execBcc (off : Byte) (s : State) : Host.Outcome State Fault Refusal :=
  execBranch off .c false s

/-- `BCS label`, $B0, 2 cycles and up to 2 more (R126, R88). -/
def execBcs (off : Byte) (s : State) : Host.Outcome State Fault Refusal :=
  execBranch off .c true s

/-- `BEQ label`, $F0, 2 cycles and up to 2 more (R127, R88). -/
def execBeq (off : Byte) (s : State) : Host.Outcome State Fault Refusal :=
  execBranch off .z true s

/-- `BNE label`, $D0, 2 cycles and up to 2 more (R128, R88). -/
def execBne (off : Byte) (s : State) : Host.Outcome State Fault Refusal :=
  execBranch off .z false s

/-- `BMI label`, $30, 2 cycles and up to 2 more (R129, R88). -/
def execBmi (off : Byte) (s : State) : Host.Outcome State Fault Refusal :=
  execBranch off .n true s

/-- `BPL label`, $10, 2 cycles and up to 2 more (R130, R88). -/
def execBpl (off : Byte) (s : State) : Host.Outcome State Fault Refusal :=
  execBranch off .n false s

/-- `BVC label`, $50, 2 cycles and up to 2 more (R131, R88). -/
def execBvc (off : Byte) (s : State) : Host.Outcome State Fault Refusal :=
  execBranch off .v false s

/-- `BVS label`, $70, 2 cycles and up to 2 more (R132, R88). -/
def execBvs (off : Byte) (s : State) : Host.Outcome State Fault Refusal :=
  execBranch off .v true s

/-- `JMP $hhll`, $4C, 3 cycles (R133, R82). -/
def execJmpAbs (addr : Word) (s : State) : Host.Outcome State Fault Refusal :=
  finish (s.setPc addr) 3

/-- `JMP ($hhll)`, $6C, 5 cycles (R133, R85). -/
def execJmpInd (ptr : Word) (s : State) : Host.Outcome State Fault Refusal :=
  finish ((indirectTarget s ptr).2.setPc (indirectTarget s ptr).1) 5

/-- `JSR $hhll`, $20, 6 cycles (R134, R82). -/
def execJsrAbs (addr : Word) (s : State) : Host.Outcome State Fault Refusal :=
  finish ((pushWord s (s.cpu.pc - 1)).setPc addr) 6

/-- `RTS`, $60, 6 cycles (R135, R76). -/
def execRts (s : State) : Host.Outcome State Fault Refusal :=
  finish ((pullWord s).2.setPc ((pullWord s).1 + 1)) 6

/-- `RTI`, $40, 6 cycles (R136, R76). -/
def execRti (s : State) : Host.Outcome State Fault Refusal :=
  finish (interruptReturn s) 6

/-- `BRK`, $00, 7 cycles (R137, R76). -/
def execBrk (s : State) : Host.Outcome State Fault Refusal :=
  .next (brkEntry s)

end Sys2Proof.Machine
end

