-- ==== Sys2Proof/Machine/LoadStore.lean ====
section
/-! DEFINITION. The loads, stores and register transfers (spec/41_load_store_transfer.md R89-R100).
One meaning per opcode, over the shapes and operations of Operands.lean and Ops.lean; PC is already the address of the
next instruction (R20). -/

namespace Sys2Proof.Machine

/-- `LDA ($nn,X)`, $A1, 6 cycles (R89, R86). -/
def execLdaIzx (zp : Byte) (s : State) : Host.Outcome State Fault Refusal :=
  execRead (.izx zp) 6 false loadA s

/-- `LDA $nn`, $A5, 3 cycles (R89, R79). -/
def execLdaZp (zp : Byte) (s : State) : Host.Outcome State Fault Refusal :=
  execRead (.zp zp) 3 false loadA s

/-- `LDA #$nn`, $A9, 2 cycles (R89, R78). -/
def execLdaImm (imm : Byte) (s : State) : Host.Outcome State Fault Refusal :=
  finish (loadA s imm) 2

/-- `LDA $hhll`, $AD, 4 cycles (R89, R82). -/
def execLdaAbs (addr : Word) (s : State) : Host.Outcome State Fault Refusal :=
  execRead (.abs addr) 4 false loadA s

/-- `LDA ($nn),Y`, $B1, 5 cycles and 1 more on a page cross (R89, R87). -/
def execLdaIzy (zp : Byte) (s : State) : Host.Outcome State Fault Refusal :=
  execRead (.izy zp) 5 true loadA s

/-- `LDA $nn,X`, $B5, 4 cycles (R89, R80). -/
def execLdaZpx (zp : Byte) (s : State) : Host.Outcome State Fault Refusal :=
  execRead (.zpx zp) 4 false loadA s

/-- `LDA $hhll,Y`, $B9, 4 cycles and 1 more on a page cross (R89, R84). -/
def execLdaAby (base : Word) (s : State) : Host.Outcome State Fault Refusal :=
  execRead (.aby base) 4 true loadA s

/-- `LDA $hhll,X`, $BD, 4 cycles and 1 more on a page cross (R89, R83). -/
def execLdaAbx (base : Word) (s : State) : Host.Outcome State Fault Refusal :=
  execRead (.abx base) 4 true loadA s

/-- `LDX #$nn`, $A2, 2 cycles (R90, R78). -/
def execLdxImm (imm : Byte) (s : State) : Host.Outcome State Fault Refusal :=
  finish (loadX s imm) 2

/-- `LDX $nn`, $A6, 3 cycles (R90, R79). -/
def execLdxZp (zp : Byte) (s : State) : Host.Outcome State Fault Refusal :=
  execRead (.zp zp) 3 false loadX s

/-- `LDX $hhll`, $AE, 4 cycles (R90, R82). -/
def execLdxAbs (addr : Word) (s : State) : Host.Outcome State Fault Refusal :=
  execRead (.abs addr) 4 false loadX s

/-- `LDX $nn,Y`, $B6, 4 cycles (R90, R81). -/
def execLdxZpy (zp : Byte) (s : State) : Host.Outcome State Fault Refusal :=
  execRead (.zpy zp) 4 false loadX s

/-- `LDX $hhll,Y`, $BE, 4 cycles and 1 more on a page cross (R90, R84). -/
def execLdxAby (base : Word) (s : State) : Host.Outcome State Fault Refusal :=
  execRead (.aby base) 4 true loadX s

/-- `LDY #$nn`, $A0, 2 cycles (R91, R78). -/
def execLdyImm (imm : Byte) (s : State) : Host.Outcome State Fault Refusal :=
  finish (loadY s imm) 2

/-- `LDY $nn`, $A4, 3 cycles (R91, R79). -/
def execLdyZp (zp : Byte) (s : State) : Host.Outcome State Fault Refusal :=
  execRead (.zp zp) 3 false loadY s

/-- `LDY $hhll`, $AC, 4 cycles (R91, R82). -/
def execLdyAbs (addr : Word) (s : State) : Host.Outcome State Fault Refusal :=
  execRead (.abs addr) 4 false loadY s

/-- `LDY $nn,X`, $B4, 4 cycles (R91, R80). -/
def execLdyZpx (zp : Byte) (s : State) : Host.Outcome State Fault Refusal :=
  execRead (.zpx zp) 4 false loadY s

/-- `LDY $hhll,X`, $BC, 4 cycles and 1 more on a page cross (R91, R83). -/
def execLdyAbx (base : Word) (s : State) : Host.Outcome State Fault Refusal :=
  execRead (.abx base) 4 true loadY s

/-- `STA ($nn,X)`, $81, 6 cycles (R92, R86). -/
def execStaIzx (zp : Byte) (s : State) : Host.Outcome State Fault Refusal :=
  execStore (.izx zp) 6 Cpu.a s

/-- `STA $nn`, $85, 3 cycles (R92, R79). -/
def execStaZp (zp : Byte) (s : State) : Host.Outcome State Fault Refusal :=
  execStore (.zp zp) 3 Cpu.a s

/-- `STA $hhll`, $8D, 4 cycles (R92, R82). -/
def execStaAbs (addr : Word) (s : State) : Host.Outcome State Fault Refusal :=
  execStore (.abs addr) 4 Cpu.a s

/-- `STA ($nn),Y`, $91, 6 cycles (R92, R87). -/
def execStaIzy (zp : Byte) (s : State) : Host.Outcome State Fault Refusal :=
  execStore (.izy zp) 6 Cpu.a s

/-- `STA $nn,X`, $95, 4 cycles (R92, R80). -/
def execStaZpx (zp : Byte) (s : State) : Host.Outcome State Fault Refusal :=
  execStore (.zpx zp) 4 Cpu.a s

/-- `STA $hhll,Y`, $99, 5 cycles (R92, R84). -/
def execStaAby (base : Word) (s : State) : Host.Outcome State Fault Refusal :=
  execStore (.aby base) 5 Cpu.a s

/-- `STA $hhll,X`, $9D, 5 cycles (R92, R83). -/
def execStaAbx (base : Word) (s : State) : Host.Outcome State Fault Refusal :=
  execStore (.abx base) 5 Cpu.a s

/-- `STX $nn`, $86, 3 cycles (R93, R79). -/
def execStxZp (zp : Byte) (s : State) : Host.Outcome State Fault Refusal :=
  execStore (.zp zp) 3 Cpu.x s

/-- `STX $hhll`, $8E, 4 cycles (R93, R82). -/
def execStxAbs (addr : Word) (s : State) : Host.Outcome State Fault Refusal :=
  execStore (.abs addr) 4 Cpu.x s

/-- `STX $nn,Y`, $96, 4 cycles (R93, R81). -/
def execStxZpy (zp : Byte) (s : State) : Host.Outcome State Fault Refusal :=
  execStore (.zpy zp) 4 Cpu.x s

/-- `STY $nn`, $84, 3 cycles (R94, R79). -/
def execStyZp (zp : Byte) (s : State) : Host.Outcome State Fault Refusal :=
  execStore (.zp zp) 3 Cpu.y s

/-- `STY $hhll`, $8C, 4 cycles (R94, R82). -/
def execStyAbs (addr : Word) (s : State) : Host.Outcome State Fault Refusal :=
  execStore (.abs addr) 4 Cpu.y s

/-- `STY $nn,X`, $94, 4 cycles (R94, R80). -/
def execStyZpx (zp : Byte) (s : State) : Host.Outcome State Fault Refusal :=
  execStore (.zpx zp) 4 Cpu.y s

/-- `TAX`, $AA, 2 cycles (R95, R76). -/
def execTax (s : State) : Host.Outcome State Fault Refusal :=
  finish (loadX s s.cpu.a) 2

/-- `TAY`, $A8, 2 cycles (R96, R76). -/
def execTay (s : State) : Host.Outcome State Fault Refusal :=
  finish (loadY s s.cpu.a) 2

/-- `TXA`, $8A, 2 cycles (R97, R76). -/
def execTxa (s : State) : Host.Outcome State Fault Refusal :=
  finish (loadA s s.cpu.x) 2

/-- `TYA`, $98, 2 cycles (R98, R76). -/
def execTya (s : State) : Host.Outcome State Fault Refusal :=
  finish (loadA s s.cpu.y) 2

/-- `TSX`, $BA, 2 cycles (R99, R76). -/
def execTsx (s : State) : Host.Outcome State Fault Refusal :=
  finish (loadX s s.cpu.sp) 2

/-- `TXS`, $9A, 2 cycles (R100, R76). -/
def execTxs (s : State) : Host.Outcome State Fault Refusal :=
  finish (s.setSp s.cpu.x) 2

end Sys2Proof.Machine
end

