-- ==== Sys2Proof/Machine/Shift.lean ====
section
/-! DEFINITION. Shifts, rotates, increments and decrements (spec/43_shift_rotate_incdec.md R114-R123).
One meaning per opcode, over the shapes and operations of Operands.lean and Ops.lean; PC is already the address of the
next instruction (R20). -/

namespace Sys2Proof.Machine

/-- `ASL $nn`, $06, 5 cycles (R114, R79). -/
def execAslZp (zp : Byte) (s : State) : Host.Outcome State Fault Refusal :=
  execModify (.zp zp) 5 aslOp flagsOfByte s

/-- `ASL A`, $0A, 2 cycles (R114, R77). -/
def execAslAcc (s : State) : Host.Outcome State Fault Refusal :=
  execModifyA 2 aslOp s

/-- `ASL $hhll`, $0E, 6 cycles (R114, R82). -/
def execAslAbs (addr : Word) (s : State) : Host.Outcome State Fault Refusal :=
  execModify (.abs addr) 6 aslOp flagsOfByte s

/-- `ASL $nn,X`, $16, 6 cycles (R114, R80). -/
def execAslZpx (zp : Byte) (s : State) : Host.Outcome State Fault Refusal :=
  execModify (.zpx zp) 6 aslOp flagsOfByte s

/-- `ASL $hhll,X`, $1E, 7 cycles (R114, R83). -/
def execAslAbx (base : Word) (s : State) : Host.Outcome State Fault Refusal :=
  execModify (.abx base) 7 aslOp flagsOfByte s

/-- `LSR $nn`, $46, 5 cycles (R115, R79). -/
def execLsrZp (zp : Byte) (s : State) : Host.Outcome State Fault Refusal :=
  execModify (.zp zp) 5 lsrOp flagsOfByte s

/-- `LSR A`, $4A, 2 cycles (R115, R77). -/
def execLsrAcc (s : State) : Host.Outcome State Fault Refusal :=
  execModifyA 2 lsrOp s

/-- `LSR $hhll`, $4E, 6 cycles (R115, R82). -/
def execLsrAbs (addr : Word) (s : State) : Host.Outcome State Fault Refusal :=
  execModify (.abs addr) 6 lsrOp flagsOfByte s

/-- `LSR $nn,X`, $56, 6 cycles (R115, R80). -/
def execLsrZpx (zp : Byte) (s : State) : Host.Outcome State Fault Refusal :=
  execModify (.zpx zp) 6 lsrOp flagsOfByte s

/-- `LSR $hhll,X`, $5E, 7 cycles (R115, R83). -/
def execLsrAbx (base : Word) (s : State) : Host.Outcome State Fault Refusal :=
  execModify (.abx base) 7 lsrOp flagsOfByte s

/-- `ROL $nn`, $26, 5 cycles (R116, R79). -/
def execRolZp (zp : Byte) (s : State) : Host.Outcome State Fault Refusal :=
  execModify (.zp zp) 5 rolOp flagsOfByte s

/-- `ROL A`, $2A, 2 cycles (R116, R77). -/
def execRolAcc (s : State) : Host.Outcome State Fault Refusal :=
  execModifyA 2 rolOp s

/-- `ROL $hhll`, $2E, 6 cycles (R116, R82). -/
def execRolAbs (addr : Word) (s : State) : Host.Outcome State Fault Refusal :=
  execModify (.abs addr) 6 rolOp flagsOfByte s

/-- `ROL $nn,X`, $36, 6 cycles (R116, R80). -/
def execRolZpx (zp : Byte) (s : State) : Host.Outcome State Fault Refusal :=
  execModify (.zpx zp) 6 rolOp flagsOfByte s

/-- `ROL $hhll,X`, $3E, 7 cycles (R116, R83). -/
def execRolAbx (base : Word) (s : State) : Host.Outcome State Fault Refusal :=
  execModify (.abx base) 7 rolOp flagsOfByte s

/-- `ROR $nn`, $66, 5 cycles (R117, R79). -/
def execRorZp (zp : Byte) (s : State) : Host.Outcome State Fault Refusal :=
  execModify (.zp zp) 5 rorOp flagsOfByte s

/-- `ROR A`, $6A, 2 cycles (R117, R77). -/
def execRorAcc (s : State) : Host.Outcome State Fault Refusal :=
  execModifyA 2 rorOp s

/-- `ROR $hhll`, $6E, 6 cycles (R117, R82). -/
def execRorAbs (addr : Word) (s : State) : Host.Outcome State Fault Refusal :=
  execModify (.abs addr) 6 rorOp flagsOfByte s

/-- `ROR $nn,X`, $76, 6 cycles (R117, R80). -/
def execRorZpx (zp : Byte) (s : State) : Host.Outcome State Fault Refusal :=
  execModify (.zpx zp) 6 rorOp flagsOfByte s

/-- `ROR $hhll,X`, $7E, 7 cycles (R117, R83). -/
def execRorAbx (base : Word) (s : State) : Host.Outcome State Fault Refusal :=
  execModify (.abx base) 7 rorOp flagsOfByte s

/-- `INC $nn`, $E6, 5 cycles (R118, R79). -/
def execIncZp (zp : Byte) (s : State) : Host.Outcome State Fault Refusal :=
  execModify (.zp zp) 5 incOp flagsOfByte s

/-- `INC $hhll`, $EE, 6 cycles (R118, R82). -/
def execIncAbs (addr : Word) (s : State) : Host.Outcome State Fault Refusal :=
  execModify (.abs addr) 6 incOp flagsOfByte s

/-- `INC $nn,X`, $F6, 6 cycles (R118, R80). -/
def execIncZpx (zp : Byte) (s : State) : Host.Outcome State Fault Refusal :=
  execModify (.zpx zp) 6 incOp flagsOfByte s

/-- `INC $hhll,X`, $FE, 7 cycles (R118, R83). -/
def execIncAbx (base : Word) (s : State) : Host.Outcome State Fault Refusal :=
  execModify (.abx base) 7 incOp flagsOfByte s

/-- `DEC $nn`, $C6, 5 cycles (R119, R79). -/
def execDecZp (zp : Byte) (s : State) : Host.Outcome State Fault Refusal :=
  execModify (.zp zp) 5 decOp flagsOfByte s

/-- `DEC $hhll`, $CE, 6 cycles (R119, R82). -/
def execDecAbs (addr : Word) (s : State) : Host.Outcome State Fault Refusal :=
  execModify (.abs addr) 6 decOp flagsOfByte s

/-- `DEC $nn,X`, $D6, 6 cycles (R119, R80). -/
def execDecZpx (zp : Byte) (s : State) : Host.Outcome State Fault Refusal :=
  execModify (.zpx zp) 6 decOp flagsOfByte s

/-- `DEC $hhll,X`, $DE, 7 cycles (R119, R83). -/
def execDecAbx (base : Word) (s : State) : Host.Outcome State Fault Refusal :=
  execModify (.abx base) 7 decOp flagsOfByte s

/-- `INX`, $E8, 2 cycles (R120, R76). -/
def execInx (s : State) : Host.Outcome State Fault Refusal :=
  finish (loadX s (s.cpu.x + 1)) 2

/-- `INY`, $C8, 2 cycles (R121, R76). -/
def execIny (s : State) : Host.Outcome State Fault Refusal :=
  finish (loadY s (s.cpu.y + 1)) 2

/-- `DEX`, $CA, 2 cycles (R122, R76). -/
def execDex (s : State) : Host.Outcome State Fault Refusal :=
  finish (loadX s (s.cpu.x - 1)) 2

/-- `DEY`, $88, 2 cycles (R123, R76). -/
def execDey (s : State) : Host.Outcome State Fault Refusal :=
  finish (loadY s (s.cpu.y - 1)) 2

end Sys2Proof.Machine
end

