-- ==== Sys2Proof/Machine/Stack.lean ====
section
/-! DEFINITION. Stack, flag and no-operation instructions (spec/45_stack_flags_nop.md R138-R149).
One meaning per opcode, over the shapes and operations of Operands.lean and Ops.lean; PC is already the address of the
next instruction (R20). -/

namespace Sys2Proof.Machine

/-- `PHA`, $48, 3 cycles (R138, R76). -/
def execPha (s : State) : Host.Outcome State Fault Refusal :=
  finish (push s s.cpu.a) 3

/-- `PHP`, $08, 3 cycles (R139, R76). -/
def execPhp (s : State) : Host.Outcome State Fault Refusal :=
  finish (push s (pushedByProgram s.cpu.p)) 3

/-- `PLA`, $68, 4 cycles (R140, R76). -/
def execPla (s : State) : Host.Outcome State Fault Refusal :=
  finish (loadA (pull s).2 (pull s).1) 4

/-- `PLP`, $28, 4 cycles (R141, R76). -/
def execPlp (s : State) : Host.Outcome State Fault Refusal :=
  finish ((pull s).2.setP (pulledStatus (pull s).1)) 4

/-- `CLC`, $18, 2 cycles (R142, R76). -/
def execClc (s : State) : Host.Outcome State Fault Refusal :=
  finish (s.setP (setFlag s.cpu.p .c false)) 2

/-- `SEC`, $38, 2 cycles (R143, R76). -/
def execSec (s : State) : Host.Outcome State Fault Refusal :=
  finish (s.setP (setFlag s.cpu.p .c true)) 2

/-- `CLI`, $58, 2 cycles (R144, R76). -/
def execCli (s : State) : Host.Outcome State Fault Refusal :=
  finish (s.setP (setFlag s.cpu.p .i false)) 2

/-- `SEI`, $78, 2 cycles (R145, R76). -/
def execSei (s : State) : Host.Outcome State Fault Refusal :=
  finish (s.setP (setFlag s.cpu.p .i true)) 2

/-- `CLD`, $D8, 2 cycles (R146, R76). -/
def execCld (s : State) : Host.Outcome State Fault Refusal :=
  finish (s.setP (setFlag s.cpu.p .d false)) 2

/-- `SED`, $F8, 2 cycles (R147, R76). -/
def execSed (s : State) : Host.Outcome State Fault Refusal :=
  finish (s.setP (setFlag s.cpu.p .d true)) 2

/-- `CLV`, $B8, 2 cycles (R148, R76). -/
def execClv (s : State) : Host.Outcome State Fault Refusal :=
  finish (s.setP (setFlag s.cpu.p .v false)) 2

/-- `NOP`, $EA, 2 cycles (R149, R76). -/
def execNop (s : State) : Host.Outcome State Fault Refusal :=
  finish s 2

end Sys2Proof.Machine
end

