-- ==== Sys2Proof/Machine/Undocumented.lean ====
section
/-! DEFINITION. The undocumented opcodes (spec/46_undocumented.md R150-R173).
One meaning per opcode, over the shapes and operations of Operands.lean and Ops.lean; PC is already the address of the
next instruction (R20). -/

namespace Sys2Proof.Machine

/-! ### Immediate combinations on A and X -/

/-- ANC: AND, then C from bit 7 of the result (R159). -/
def ancA (s : State) (m : Byte) : State :=
  let r := s.cpu.a &&& m
  (s.setA r).setP (setFlag (setNZ s.cpu.p r) .c (r.getLsbD 7))

/-- ALR: AND, then a logical shift right with C from bit 0 (R160). -/
def alrA (s : State) (m : Byte) : State :=
  let r := lsrOp (s.cpu.a &&& m) s.cpu.p
  (s.setA r.1).setP (setNZ r.2 r.1)

/-- ARR: AND, then a rotate right with its own C and V (R161). -/
def arrA (s : State) (m : Byte) : State :=
  (s.setA (arrResult s.cpu.p s.cpu.a m)).setP (arrFlags s.cpu.p s.cpu.a m)

/-- AXS: X becomes (A AND X) minus the operand, C as a comparison sets it, V unchanged (R162). -/
def axsX (s : State) (m : Byte) : State :=
  let t := s.cpu.a &&& s.cpu.x
  (s.setX (t - m)).setP (setNZ (setFlag s.cpu.p .c (decide (m.toNat ≤ t.toNat))) (t - m))

/-- XAA: A ORed with the OPEN constant XAA_MAGIC, then ANDed with X and the operand (R163). -/
def xaaA (s : State) (m : Byte) : State := loadA s ((s.cpu.a ||| s.params.xaaMagic) &&& s.cpu.x &&& m)

/-- LXA: A ORed with the OPEN constant LXA_MAGIC, then ANDed with the operand, into A and X (R164). -/
def lxaAX (s : State) (m : Byte) : State := loadAX s ((s.cpu.a ||| s.params.lxaMagic) &&& m)

/-! ### The instructions -/

/-- `SLO ($nn,X)`, $03, 8 cycles (R151, R86). -/
def execSloIzx (zp : Byte) (s : State) : Host.Outcome State Fault Refusal :=
  execModify (.izx zp) 8 aslOp oraA s

/-- `SLO $nn`, $07, 5 cycles (R151, R79). -/
def execSloZp (zp : Byte) (s : State) : Host.Outcome State Fault Refusal :=
  execModify (.zp zp) 5 aslOp oraA s

/-- `SLO $hhll`, $0F, 6 cycles (R151, R82). -/
def execSloAbs (addr : Word) (s : State) : Host.Outcome State Fault Refusal :=
  execModify (.abs addr) 6 aslOp oraA s

/-- `SLO ($nn),Y`, $13, 8 cycles (R151, R87). -/
def execSloIzy (zp : Byte) (s : State) : Host.Outcome State Fault Refusal :=
  execModify (.izy zp) 8 aslOp oraA s

/-- `SLO $nn,X`, $17, 6 cycles (R151, R80). -/
def execSloZpx (zp : Byte) (s : State) : Host.Outcome State Fault Refusal :=
  execModify (.zpx zp) 6 aslOp oraA s

/-- `SLO $hhll,Y`, $1B, 7 cycles (R151, R84). -/
def execSloAby (base : Word) (s : State) : Host.Outcome State Fault Refusal :=
  execModify (.aby base) 7 aslOp oraA s

/-- `SLO $hhll,X`, $1F, 7 cycles (R151, R83). -/
def execSloAbx (base : Word) (s : State) : Host.Outcome State Fault Refusal :=
  execModify (.abx base) 7 aslOp oraA s

/-- `RLA ($nn,X)`, $23, 8 cycles (R152, R86). -/
def execRlaIzx (zp : Byte) (s : State) : Host.Outcome State Fault Refusal :=
  execModify (.izx zp) 8 rolOp andA s

/-- `RLA $nn`, $27, 5 cycles (R152, R79). -/
def execRlaZp (zp : Byte) (s : State) : Host.Outcome State Fault Refusal :=
  execModify (.zp zp) 5 rolOp andA s

/-- `RLA $hhll`, $2F, 6 cycles (R152, R82). -/
def execRlaAbs (addr : Word) (s : State) : Host.Outcome State Fault Refusal :=
  execModify (.abs addr) 6 rolOp andA s

/-- `RLA ($nn),Y`, $33, 8 cycles (R152, R87). -/
def execRlaIzy (zp : Byte) (s : State) : Host.Outcome State Fault Refusal :=
  execModify (.izy zp) 8 rolOp andA s

/-- `RLA $nn,X`, $37, 6 cycles (R152, R80). -/
def execRlaZpx (zp : Byte) (s : State) : Host.Outcome State Fault Refusal :=
  execModify (.zpx zp) 6 rolOp andA s

/-- `RLA $hhll,Y`, $3B, 7 cycles (R152, R84). -/
def execRlaAby (base : Word) (s : State) : Host.Outcome State Fault Refusal :=
  execModify (.aby base) 7 rolOp andA s

/-- `RLA $hhll,X`, $3F, 7 cycles (R152, R83). -/
def execRlaAbx (base : Word) (s : State) : Host.Outcome State Fault Refusal :=
  execModify (.abx base) 7 rolOp andA s

/-- `SRE ($nn,X)`, $43, 8 cycles (R153, R86). -/
def execSreIzx (zp : Byte) (s : State) : Host.Outcome State Fault Refusal :=
  execModify (.izx zp) 8 lsrOp eorA s

/-- `SRE $nn`, $47, 5 cycles (R153, R79). -/
def execSreZp (zp : Byte) (s : State) : Host.Outcome State Fault Refusal :=
  execModify (.zp zp) 5 lsrOp eorA s

/-- `SRE $hhll`, $4F, 6 cycles (R153, R82). -/
def execSreAbs (addr : Word) (s : State) : Host.Outcome State Fault Refusal :=
  execModify (.abs addr) 6 lsrOp eorA s

/-- `SRE ($nn),Y`, $53, 8 cycles (R153, R87). -/
def execSreIzy (zp : Byte) (s : State) : Host.Outcome State Fault Refusal :=
  execModify (.izy zp) 8 lsrOp eorA s

/-- `SRE $nn,X`, $57, 6 cycles (R153, R80). -/
def execSreZpx (zp : Byte) (s : State) : Host.Outcome State Fault Refusal :=
  execModify (.zpx zp) 6 lsrOp eorA s

/-- `SRE $hhll,Y`, $5B, 7 cycles (R153, R84). -/
def execSreAby (base : Word) (s : State) : Host.Outcome State Fault Refusal :=
  execModify (.aby base) 7 lsrOp eorA s

/-- `SRE $hhll,X`, $5F, 7 cycles (R153, R83). -/
def execSreAbx (base : Word) (s : State) : Host.Outcome State Fault Refusal :=
  execModify (.abx base) 7 lsrOp eorA s

/-- `RRA ($nn,X)`, $63, 8 cycles (R154, R86). -/
def execRraIzx (zp : Byte) (s : State) : Host.Outcome State Fault Refusal :=
  execModify (.izx zp) 8 rorOp adcA s

/-- `RRA $nn`, $67, 5 cycles (R154, R79). -/
def execRraZp (zp : Byte) (s : State) : Host.Outcome State Fault Refusal :=
  execModify (.zp zp) 5 rorOp adcA s

/-- `RRA $hhll`, $6F, 6 cycles (R154, R82). -/
def execRraAbs (addr : Word) (s : State) : Host.Outcome State Fault Refusal :=
  execModify (.abs addr) 6 rorOp adcA s

/-- `RRA ($nn),Y`, $73, 8 cycles (R154, R87). -/
def execRraIzy (zp : Byte) (s : State) : Host.Outcome State Fault Refusal :=
  execModify (.izy zp) 8 rorOp adcA s

/-- `RRA $nn,X`, $77, 6 cycles (R154, R80). -/
def execRraZpx (zp : Byte) (s : State) : Host.Outcome State Fault Refusal :=
  execModify (.zpx zp) 6 rorOp adcA s

/-- `RRA $hhll,Y`, $7B, 7 cycles (R154, R84). -/
def execRraAby (base : Word) (s : State) : Host.Outcome State Fault Refusal :=
  execModify (.aby base) 7 rorOp adcA s

/-- `RRA $hhll,X`, $7F, 7 cycles (R154, R83). -/
def execRraAbx (base : Word) (s : State) : Host.Outcome State Fault Refusal :=
  execModify (.abx base) 7 rorOp adcA s

/-- `DCP ($nn,X)`, $C3, 8 cycles (R155, R86). -/
def execDcpIzx (zp : Byte) (s : State) : Host.Outcome State Fault Refusal :=
  execModify (.izx zp) 8 decOp compareA s

/-- `DCP $nn`, $C7, 5 cycles (R155, R79). -/
def execDcpZp (zp : Byte) (s : State) : Host.Outcome State Fault Refusal :=
  execModify (.zp zp) 5 decOp compareA s

/-- `DCP $hhll`, $CF, 6 cycles (R155, R82). -/
def execDcpAbs (addr : Word) (s : State) : Host.Outcome State Fault Refusal :=
  execModify (.abs addr) 6 decOp compareA s

/-- `DCP ($nn),Y`, $D3, 8 cycles (R155, R87). -/
def execDcpIzy (zp : Byte) (s : State) : Host.Outcome State Fault Refusal :=
  execModify (.izy zp) 8 decOp compareA s

/-- `DCP $nn,X`, $D7, 6 cycles (R155, R80). -/
def execDcpZpx (zp : Byte) (s : State) : Host.Outcome State Fault Refusal :=
  execModify (.zpx zp) 6 decOp compareA s

/-- `DCP $hhll,Y`, $DB, 7 cycles (R155, R84). -/
def execDcpAby (base : Word) (s : State) : Host.Outcome State Fault Refusal :=
  execModify (.aby base) 7 decOp compareA s

/-- `DCP $hhll,X`, $DF, 7 cycles (R155, R83). -/
def execDcpAbx (base : Word) (s : State) : Host.Outcome State Fault Refusal :=
  execModify (.abx base) 7 decOp compareA s

/-- `ISC ($nn,X)`, $E3, 8 cycles (R156, R86). -/
def execIscIzx (zp : Byte) (s : State) : Host.Outcome State Fault Refusal :=
  execModify (.izx zp) 8 incOp sbcA s

/-- `ISC $nn`, $E7, 5 cycles (R156, R79). -/
def execIscZp (zp : Byte) (s : State) : Host.Outcome State Fault Refusal :=
  execModify (.zp zp) 5 incOp sbcA s

/-- `ISC $hhll`, $EF, 6 cycles (R156, R82). -/
def execIscAbs (addr : Word) (s : State) : Host.Outcome State Fault Refusal :=
  execModify (.abs addr) 6 incOp sbcA s

/-- `ISC ($nn),Y`, $F3, 8 cycles (R156, R87). -/
def execIscIzy (zp : Byte) (s : State) : Host.Outcome State Fault Refusal :=
  execModify (.izy zp) 8 incOp sbcA s

/-- `ISC $nn,X`, $F7, 6 cycles (R156, R80). -/
def execIscZpx (zp : Byte) (s : State) : Host.Outcome State Fault Refusal :=
  execModify (.zpx zp) 6 incOp sbcA s

/-- `ISC $hhll,Y`, $FB, 7 cycles (R156, R84). -/
def execIscAby (base : Word) (s : State) : Host.Outcome State Fault Refusal :=
  execModify (.aby base) 7 incOp sbcA s

/-- `ISC $hhll,X`, $FF, 7 cycles (R156, R83). -/
def execIscAbx (base : Word) (s : State) : Host.Outcome State Fault Refusal :=
  execModify (.abx base) 7 incOp sbcA s

/-- `SAX ($nn,X)`, $83, 6 cycles (R157, R86). -/
def execSaxIzx (zp : Byte) (s : State) : Host.Outcome State Fault Refusal :=
  execStore (.izx zp) 6 (fun c => c.a &&& c.x) s

/-- `SAX $nn`, $87, 3 cycles (R157, R79). -/
def execSaxZp (zp : Byte) (s : State) : Host.Outcome State Fault Refusal :=
  execStore (.zp zp) 3 (fun c => c.a &&& c.x) s

/-- `SAX $hhll`, $8F, 4 cycles (R157, R82). -/
def execSaxAbs (addr : Word) (s : State) : Host.Outcome State Fault Refusal :=
  execStore (.abs addr) 4 (fun c => c.a &&& c.x) s

/-- `SAX $nn,Y`, $97, 4 cycles (R157, R81). -/
def execSaxZpy (zp : Byte) (s : State) : Host.Outcome State Fault Refusal :=
  execStore (.zpy zp) 4 (fun c => c.a &&& c.x) s

/-- `LAX ($nn,X)`, $A3, 6 cycles (R158, R86). -/
def execLaxIzx (zp : Byte) (s : State) : Host.Outcome State Fault Refusal :=
  execRead (.izx zp) 6 false loadAX s

/-- `LAX $nn`, $A7, 3 cycles (R158, R79). -/
def execLaxZp (zp : Byte) (s : State) : Host.Outcome State Fault Refusal :=
  execRead (.zp zp) 3 false loadAX s

/-- `LAX $hhll`, $AF, 4 cycles (R158, R82). -/
def execLaxAbs (addr : Word) (s : State) : Host.Outcome State Fault Refusal :=
  execRead (.abs addr) 4 false loadAX s

/-- `LAX ($nn),Y`, $B3, 5 cycles and 1 more on a page cross (R158, R87). -/
def execLaxIzy (zp : Byte) (s : State) : Host.Outcome State Fault Refusal :=
  execRead (.izy zp) 5 true loadAX s

/-- `LAX $nn,Y`, $B7, 4 cycles (R158, R81). -/
def execLaxZpy (zp : Byte) (s : State) : Host.Outcome State Fault Refusal :=
  execRead (.zpy zp) 4 false loadAX s

/-- `LAX $hhll,Y`, $BF, 4 cycles and 1 more on a page cross (R158, R84). -/
def execLaxAby (base : Word) (s : State) : Host.Outcome State Fault Refusal :=
  execRead (.aby base) 4 true loadAX s

/-- `ANC #$nn`, $0B, 2 cycles (R159, R78). -/
def execAncImm0B (imm : Byte) (s : State) : Host.Outcome State Fault Refusal :=
  finish (ancA s imm) 2

/-- `ANC #$nn`, $2B, 2 cycles (R159, R78). -/
def execAncImm2B (imm : Byte) (s : State) : Host.Outcome State Fault Refusal :=
  finish (ancA s imm) 2

/-- `ALR #$nn`, $4B, 2 cycles (R160, R78). -/
def execAlrImm (imm : Byte) (s : State) : Host.Outcome State Fault Refusal :=
  finish (alrA s imm) 2

/-- `ARR #$nn`, $6B, 2 cycles (R161, R78). -/
def execArrImm (imm : Byte) (s : State) : Host.Outcome State Fault Refusal :=
  finish (arrA s imm) 2

/-- `AXS #$nn`, $CB, 2 cycles (R162, R78). -/
def execAxsImm (imm : Byte) (s : State) : Host.Outcome State Fault Refusal :=
  finish (axsX s imm) 2

/-- `XAA #$nn`, $8B, 2 cycles (R163, R78). -/
def execXaaImm (imm : Byte) (s : State) : Host.Outcome State Fault Refusal :=
  finish (xaaA s imm) 2

/-- `LXA #$nn`, $AB, 2 cycles (R164, R78). -/
def execLxaImm (imm : Byte) (s : State) : Host.Outcome State Fault Refusal :=
  finish (lxaAX s imm) 2

/-- `LAR $hhll,Y`, $BB, 4 cycles and 1 more on a page cross (R165, R84). -/
def execLarAby (base : Word) (s : State) : Host.Outcome State Fault Refusal :=
  execRead (.aby base) 4 true loadAXSp s

/-- `AHX ($nn),Y`, $93, 6 cycles (R167, R87). -/
def execAhxIzy (zp : Byte) (s : State) : Host.Outcome State Fault Refusal :=
  execHighStore 0x93#8 (.izy zp) 6 id (fun c => c.a &&& c.x) s

/-- `AHX $hhll,Y`, $9F, 5 cycles (R167, R84). -/
def execAhxAby (base : Word) (s : State) : Host.Outcome State Fault Refusal :=
  execHighStore 0x9F#8 (.aby base) 5 id (fun c => c.a &&& c.x) s

/-- `SHX $hhll,Y`, $9E, 5 cycles (R168, R84). -/
def execShxAby (base : Word) (s : State) : Host.Outcome State Fault Refusal :=
  execHighStore 0x9E#8 (.aby base) 5 id Cpu.x s

/-- `SHY $hhll,X`, $9C, 5 cycles (R169, R83). -/
def execShyAbx (base : Word) (s : State) : Host.Outcome State Fault Refusal :=
  execHighStore 0x9C#8 (.abx base) 5 id Cpu.y s

/-- `TAS $hhll,Y`, $9B, 5 cycles (R170, R84). -/
def execTasAby (base : Word) (s : State) : Host.Outcome State Fault Refusal :=
  execHighStore 0x9B#8 (.aby base) 5 (fun s => s.setSp (s.cpu.a &&& s.cpu.x)) Cpu.sp s

/-- `NOP $nn`, $04, 3 cycles (R171, R79). -/
def execNopZp04 (zp : Byte) (s : State) : Host.Outcome State Fault Refusal :=
  execRead (.zp zp) 3 false ignoreByte s

/-- `NOP $hhll`, $0C, 4 cycles (R171, R82). -/
def execNopAbs (addr : Word) (s : State) : Host.Outcome State Fault Refusal :=
  execRead (.abs addr) 4 false ignoreByte s

/-- `NOP $nn,X`, $14, 4 cycles (R171, R80). -/
def execNopZpx14 (zp : Byte) (s : State) : Host.Outcome State Fault Refusal :=
  execRead (.zpx zp) 4 false ignoreByte s

/-- `NOP`, $1A, 2 cycles (R171, R76). -/
def execNop1A (s : State) : Host.Outcome State Fault Refusal :=
  finish s 2

/-- `NOP $hhll,X`, $1C, 4 cycles and 1 more on a page cross (R171, R83). -/
def execNopAbx1C (base : Word) (s : State) : Host.Outcome State Fault Refusal :=
  execRead (.abx base) 4 true ignoreByte s

/-- `NOP $nn,X`, $34, 4 cycles (R171, R80). -/
def execNopZpx34 (zp : Byte) (s : State) : Host.Outcome State Fault Refusal :=
  execRead (.zpx zp) 4 false ignoreByte s

/-- `NOP`, $3A, 2 cycles (R171, R76). -/
def execNop3A (s : State) : Host.Outcome State Fault Refusal :=
  finish s 2

/-- `NOP $hhll,X`, $3C, 4 cycles and 1 more on a page cross (R171, R83). -/
def execNopAbx3C (base : Word) (s : State) : Host.Outcome State Fault Refusal :=
  execRead (.abx base) 4 true ignoreByte s

/-- `NOP $nn`, $44, 3 cycles (R171, R79). -/
def execNopZp44 (zp : Byte) (s : State) : Host.Outcome State Fault Refusal :=
  execRead (.zp zp) 3 false ignoreByte s

/-- `NOP $nn,X`, $54, 4 cycles (R171, R80). -/
def execNopZpx54 (zp : Byte) (s : State) : Host.Outcome State Fault Refusal :=
  execRead (.zpx zp) 4 false ignoreByte s

/-- `NOP`, $5A, 2 cycles (R171, R76). -/
def execNop5A (s : State) : Host.Outcome State Fault Refusal :=
  finish s 2

/-- `NOP $hhll,X`, $5C, 4 cycles and 1 more on a page cross (R171, R83). -/
def execNopAbx5C (base : Word) (s : State) : Host.Outcome State Fault Refusal :=
  execRead (.abx base) 4 true ignoreByte s

/-- `NOP $nn`, $64, 3 cycles (R171, R79). -/
def execNopZp64 (zp : Byte) (s : State) : Host.Outcome State Fault Refusal :=
  execRead (.zp zp) 3 false ignoreByte s

/-- `NOP $nn,X`, $74, 4 cycles (R171, R80). -/
def execNopZpx74 (zp : Byte) (s : State) : Host.Outcome State Fault Refusal :=
  execRead (.zpx zp) 4 false ignoreByte s

/-- `NOP`, $7A, 2 cycles (R171, R76). -/
def execNop7A (s : State) : Host.Outcome State Fault Refusal :=
  finish s 2

/-- `NOP $hhll,X`, $7C, 4 cycles and 1 more on a page cross (R171, R83). -/
def execNopAbx7C (base : Word) (s : State) : Host.Outcome State Fault Refusal :=
  execRead (.abx base) 4 true ignoreByte s

/-- `NOP #$nn`, $80, 2 cycles (R171, R78). -/
def execNopImm80 (_imm : Byte) (s : State) : Host.Outcome State Fault Refusal :=
  finish s 2

/-- `NOP #$nn`, $82, 2 cycles (R171, R78). -/
def execNopImm82 (_imm : Byte) (s : State) : Host.Outcome State Fault Refusal :=
  finish s 2

/-- `NOP #$nn`, $89, 2 cycles (R171, R78). -/
def execNopImm89 (_imm : Byte) (s : State) : Host.Outcome State Fault Refusal :=
  finish s 2

/-- `NOP #$nn`, $C2, 2 cycles (R171, R78). -/
def execNopImmC2 (_imm : Byte) (s : State) : Host.Outcome State Fault Refusal :=
  finish s 2

/-- `NOP $nn,X`, $D4, 4 cycles (R171, R80). -/
def execNopZpxD4 (zp : Byte) (s : State) : Host.Outcome State Fault Refusal :=
  execRead (.zpx zp) 4 false ignoreByte s

/-- `NOP`, $DA, 2 cycles (R171, R76). -/
def execNopDA (s : State) : Host.Outcome State Fault Refusal :=
  finish s 2

/-- `NOP $hhll,X`, $DC, 4 cycles and 1 more on a page cross (R171, R83). -/
def execNopAbxDC (base : Word) (s : State) : Host.Outcome State Fault Refusal :=
  execRead (.abx base) 4 true ignoreByte s

/-- `NOP #$nn`, $E2, 2 cycles (R171, R78). -/
def execNopImmE2 (_imm : Byte) (s : State) : Host.Outcome State Fault Refusal :=
  finish s 2

/-- `NOP $nn,X`, $F4, 4 cycles (R171, R80). -/
def execNopZpxF4 (zp : Byte) (s : State) : Host.Outcome State Fault Refusal :=
  execRead (.zpx zp) 4 false ignoreByte s

/-- `NOP`, $FA, 2 cycles (R171, R76). -/
def execNopFA (s : State) : Host.Outcome State Fault Refusal :=
  finish s 2

/-- `NOP $hhll,X`, $FC, 4 cycles and 1 more on a page cross (R171, R83). -/
def execNopAbxFC (base : Word) (s : State) : Host.Outcome State Fault Refusal :=
  execRead (.abx base) 4 true ignoreByte s

/-- `JAM`, $02 (R172, R76). -/
def execJam02 (s : State) : Host.Outcome State Fault Refusal :=
  execJam 0x02#8 s

/-- `JAM`, $12 (R172, R76). -/
def execJam12 (s : State) : Host.Outcome State Fault Refusal :=
  execJam 0x12#8 s

/-- `JAM`, $22 (R172, R76). -/
def execJam22 (s : State) : Host.Outcome State Fault Refusal :=
  execJam 0x22#8 s

/-- `JAM`, $32 (R172, R76). -/
def execJam32 (s : State) : Host.Outcome State Fault Refusal :=
  execJam 0x32#8 s

/-- `JAM`, $42 (R172, R76). -/
def execJam42 (s : State) : Host.Outcome State Fault Refusal :=
  execJam 0x42#8 s

/-- `JAM`, $52 (R172, R76). -/
def execJam52 (s : State) : Host.Outcome State Fault Refusal :=
  execJam 0x52#8 s

/-- `JAM`, $62 (R172, R76). -/
def execJam62 (s : State) : Host.Outcome State Fault Refusal :=
  execJam 0x62#8 s

/-- `JAM`, $72 (R172, R76). -/
def execJam72 (s : State) : Host.Outcome State Fault Refusal :=
  execJam 0x72#8 s

/-- `JAM`, $92 (R172, R76). -/
def execJam92 (s : State) : Host.Outcome State Fault Refusal :=
  execJam 0x92#8 s

/-- `JAM`, $B2 (R172, R76). -/
def execJamB2 (s : State) : Host.Outcome State Fault Refusal :=
  execJam 0xB2#8 s

/-- `JAM`, $D2 (R172, R76). -/
def execJamD2 (s : State) : Host.Outcome State Fault Refusal :=
  execJam 0xD2#8 s

/-- `JAM`, $F2 (R172, R76). -/
def execJamF2 (s : State) : Host.Outcome State Fault Refusal :=
  execJam 0xF2#8 s

end Sys2Proof.Machine
end

