-- ==== Sys2Proof/Machine/Dispatch.lean ====
section
/-! DEFINITION. The dispatch table (R26): one arm per instruction, each one call of its meaning. -/

namespace Sys2Proof.Machine

def exec (i : Instr) (s : State) : Host.Outcome State Fault Refusal :=
  match i with
  | .brk => Sys2Proof.Machine.execBrk s
  | .oraIzx zp => Sys2Proof.Machine.execOraIzx zp s
  | .jam02 => Sys2Proof.Machine.execJam02 s
  | .sloIzx zp => Sys2Proof.Machine.execSloIzx zp s
  | .nopZp04 zp => Sys2Proof.Machine.execNopZp04 zp s
  | .oraZp zp => Sys2Proof.Machine.execOraZp zp s
  | .aslZp zp => Sys2Proof.Machine.execAslZp zp s
  | .sloZp zp => Sys2Proof.Machine.execSloZp zp s
  | .php => Sys2Proof.Machine.execPhp s
  | .oraImm imm => Sys2Proof.Machine.execOraImm imm s
  | .aslAcc => Sys2Proof.Machine.execAslAcc s
  | .ancImm0B imm => Sys2Proof.Machine.execAncImm0B imm s
  | .nopAbs addr => Sys2Proof.Machine.execNopAbs addr s
  | .oraAbs addr => Sys2Proof.Machine.execOraAbs addr s
  | .aslAbs addr => Sys2Proof.Machine.execAslAbs addr s
  | .sloAbs addr => Sys2Proof.Machine.execSloAbs addr s
  | .bpl off => Sys2Proof.Machine.execBpl off s
  | .oraIzy zp => Sys2Proof.Machine.execOraIzy zp s
  | .jam12 => Sys2Proof.Machine.execJam12 s
  | .sloIzy zp => Sys2Proof.Machine.execSloIzy zp s
  | .nopZpx14 zp => Sys2Proof.Machine.execNopZpx14 zp s
  | .oraZpx zp => Sys2Proof.Machine.execOraZpx zp s
  | .aslZpx zp => Sys2Proof.Machine.execAslZpx zp s
  | .sloZpx zp => Sys2Proof.Machine.execSloZpx zp s
  | .clc => Sys2Proof.Machine.execClc s
  | .oraAby base => Sys2Proof.Machine.execOraAby base s
  | .nop1A => Sys2Proof.Machine.execNop1A s
  | .sloAby base => Sys2Proof.Machine.execSloAby base s
  | .nopAbx1C base => Sys2Proof.Machine.execNopAbx1C base s
  | .oraAbx base => Sys2Proof.Machine.execOraAbx base s
  | .aslAbx base => Sys2Proof.Machine.execAslAbx base s
  | .sloAbx base => Sys2Proof.Machine.execSloAbx base s
  | .jsrAbs addr => Sys2Proof.Machine.execJsrAbs addr s
  | .andIzx zp => Sys2Proof.Machine.execAndIzx zp s
  | .jam22 => Sys2Proof.Machine.execJam22 s
  | .rlaIzx zp => Sys2Proof.Machine.execRlaIzx zp s
  | .bitZp zp => Sys2Proof.Machine.execBitZp zp s
  | .andZp zp => Sys2Proof.Machine.execAndZp zp s
  | .rolZp zp => Sys2Proof.Machine.execRolZp zp s
  | .rlaZp zp => Sys2Proof.Machine.execRlaZp zp s
  | .plp => Sys2Proof.Machine.execPlp s
  | .andImm imm => Sys2Proof.Machine.execAndImm imm s
  | .rolAcc => Sys2Proof.Machine.execRolAcc s
  | .ancImm2B imm => Sys2Proof.Machine.execAncImm2B imm s
  | .bitAbs addr => Sys2Proof.Machine.execBitAbs addr s
  | .andAbs addr => Sys2Proof.Machine.execAndAbs addr s
  | .rolAbs addr => Sys2Proof.Machine.execRolAbs addr s
  | .rlaAbs addr => Sys2Proof.Machine.execRlaAbs addr s
  | .bmi off => Sys2Proof.Machine.execBmi off s
  | .andIzy zp => Sys2Proof.Machine.execAndIzy zp s
  | .jam32 => Sys2Proof.Machine.execJam32 s
  | .rlaIzy zp => Sys2Proof.Machine.execRlaIzy zp s
  | .nopZpx34 zp => Sys2Proof.Machine.execNopZpx34 zp s
  | .andZpx zp => Sys2Proof.Machine.execAndZpx zp s
  | .rolZpx zp => Sys2Proof.Machine.execRolZpx zp s
  | .rlaZpx zp => Sys2Proof.Machine.execRlaZpx zp s
  | .sec => Sys2Proof.Machine.execSec s
  | .andAby base => Sys2Proof.Machine.execAndAby base s
  | .nop3A => Sys2Proof.Machine.execNop3A s
  | .rlaAby base => Sys2Proof.Machine.execRlaAby base s
  | .nopAbx3C base => Sys2Proof.Machine.execNopAbx3C base s
  | .andAbx base => Sys2Proof.Machine.execAndAbx base s
  | .rolAbx base => Sys2Proof.Machine.execRolAbx base s
  | .rlaAbx base => Sys2Proof.Machine.execRlaAbx base s
  | .rti => Sys2Proof.Machine.execRti s
  | .eorIzx zp => Sys2Proof.Machine.execEorIzx zp s
  | .jam42 => Sys2Proof.Machine.execJam42 s
  | .sreIzx zp => Sys2Proof.Machine.execSreIzx zp s
  | .nopZp44 zp => Sys2Proof.Machine.execNopZp44 zp s
  | .eorZp zp => Sys2Proof.Machine.execEorZp zp s
  | .lsrZp zp => Sys2Proof.Machine.execLsrZp zp s
  | .sreZp zp => Sys2Proof.Machine.execSreZp zp s
  | .pha => Sys2Proof.Machine.execPha s
  | .eorImm imm => Sys2Proof.Machine.execEorImm imm s
  | .lsrAcc => Sys2Proof.Machine.execLsrAcc s
  | .alrImm imm => Sys2Proof.Machine.execAlrImm imm s
  | .jmpAbs addr => Sys2Proof.Machine.execJmpAbs addr s
  | .eorAbs addr => Sys2Proof.Machine.execEorAbs addr s
  | .lsrAbs addr => Sys2Proof.Machine.execLsrAbs addr s
  | .sreAbs addr => Sys2Proof.Machine.execSreAbs addr s
  | .bvc off => Sys2Proof.Machine.execBvc off s
  | .eorIzy zp => Sys2Proof.Machine.execEorIzy zp s
  | .jam52 => Sys2Proof.Machine.execJam52 s
  | .sreIzy zp => Sys2Proof.Machine.execSreIzy zp s
  | .nopZpx54 zp => Sys2Proof.Machine.execNopZpx54 zp s
  | .eorZpx zp => Sys2Proof.Machine.execEorZpx zp s
  | .lsrZpx zp => Sys2Proof.Machine.execLsrZpx zp s
  | .sreZpx zp => Sys2Proof.Machine.execSreZpx zp s
  | .cli => Sys2Proof.Machine.execCli s
  | .eorAby base => Sys2Proof.Machine.execEorAby base s
  | .nop5A => Sys2Proof.Machine.execNop5A s
  | .sreAby base => Sys2Proof.Machine.execSreAby base s
  | .nopAbx5C base => Sys2Proof.Machine.execNopAbx5C base s
  | .eorAbx base => Sys2Proof.Machine.execEorAbx base s
  | .lsrAbx base => Sys2Proof.Machine.execLsrAbx base s
  | .sreAbx base => Sys2Proof.Machine.execSreAbx base s
  | .rts => Sys2Proof.Machine.execRts s
  | .adcIzx zp => Sys2Proof.Machine.execAdcIzx zp s
  | .jam62 => Sys2Proof.Machine.execJam62 s
  | .rraIzx zp => Sys2Proof.Machine.execRraIzx zp s
  | .nopZp64 zp => Sys2Proof.Machine.execNopZp64 zp s
  | .adcZp zp => Sys2Proof.Machine.execAdcZp zp s
  | .rorZp zp => Sys2Proof.Machine.execRorZp zp s
  | .rraZp zp => Sys2Proof.Machine.execRraZp zp s
  | .pla => Sys2Proof.Machine.execPla s
  | .adcImm imm => Sys2Proof.Machine.execAdcImm imm s
  | .rorAcc => Sys2Proof.Machine.execRorAcc s
  | .arrImm imm => Sys2Proof.Machine.execArrImm imm s
  | .jmpInd ptr => Sys2Proof.Machine.execJmpInd ptr s
  | .adcAbs addr => Sys2Proof.Machine.execAdcAbs addr s
  | .rorAbs addr => Sys2Proof.Machine.execRorAbs addr s
  | .rraAbs addr => Sys2Proof.Machine.execRraAbs addr s
  | .bvs off => Sys2Proof.Machine.execBvs off s
  | .adcIzy zp => Sys2Proof.Machine.execAdcIzy zp s
  | .jam72 => Sys2Proof.Machine.execJam72 s
  | .rraIzy zp => Sys2Proof.Machine.execRraIzy zp s
  | .nopZpx74 zp => Sys2Proof.Machine.execNopZpx74 zp s
  | .adcZpx zp => Sys2Proof.Machine.execAdcZpx zp s
  | .rorZpx zp => Sys2Proof.Machine.execRorZpx zp s
  | .rraZpx zp => Sys2Proof.Machine.execRraZpx zp s
  | .sei => Sys2Proof.Machine.execSei s
  | .adcAby base => Sys2Proof.Machine.execAdcAby base s
  | .nop7A => Sys2Proof.Machine.execNop7A s
  | .rraAby base => Sys2Proof.Machine.execRraAby base s
  | .nopAbx7C base => Sys2Proof.Machine.execNopAbx7C base s
  | .adcAbx base => Sys2Proof.Machine.execAdcAbx base s
  | .rorAbx base => Sys2Proof.Machine.execRorAbx base s
  | .rraAbx base => Sys2Proof.Machine.execRraAbx base s
  | .nopImm80 imm => Sys2Proof.Machine.execNopImm80 imm s
  | .staIzx zp => Sys2Proof.Machine.execStaIzx zp s
  | .nopImm82 imm => Sys2Proof.Machine.execNopImm82 imm s
  | .saxIzx zp => Sys2Proof.Machine.execSaxIzx zp s
  | .styZp zp => Sys2Proof.Machine.execStyZp zp s
  | .staZp zp => Sys2Proof.Machine.execStaZp zp s
  | .stxZp zp => Sys2Proof.Machine.execStxZp zp s
  | .saxZp zp => Sys2Proof.Machine.execSaxZp zp s
  | .dey => Sys2Proof.Machine.execDey s
  | .nopImm89 imm => Sys2Proof.Machine.execNopImm89 imm s
  | .txa => Sys2Proof.Machine.execTxa s
  | .xaaImm imm => Sys2Proof.Machine.execXaaImm imm s
  | .styAbs addr => Sys2Proof.Machine.execStyAbs addr s
  | .staAbs addr => Sys2Proof.Machine.execStaAbs addr s
  | .stxAbs addr => Sys2Proof.Machine.execStxAbs addr s
  | .saxAbs addr => Sys2Proof.Machine.execSaxAbs addr s
  | .bcc off => Sys2Proof.Machine.execBcc off s
  | .staIzy zp => Sys2Proof.Machine.execStaIzy zp s
  | .jam92 => Sys2Proof.Machine.execJam92 s
  | .ahxIzy zp => Sys2Proof.Machine.execAhxIzy zp s
  | .styZpx zp => Sys2Proof.Machine.execStyZpx zp s
  | .staZpx zp => Sys2Proof.Machine.execStaZpx zp s
  | .stxZpy zp => Sys2Proof.Machine.execStxZpy zp s
  | .saxZpy zp => Sys2Proof.Machine.execSaxZpy zp s
  | .tya => Sys2Proof.Machine.execTya s
  | .staAby base => Sys2Proof.Machine.execStaAby base s
  | .txs => Sys2Proof.Machine.execTxs s
  | .tasAby base => Sys2Proof.Machine.execTasAby base s
  | .shyAbx base => Sys2Proof.Machine.execShyAbx base s
  | .staAbx base => Sys2Proof.Machine.execStaAbx base s
  | .shxAby base => Sys2Proof.Machine.execShxAby base s
  | .ahxAby base => Sys2Proof.Machine.execAhxAby base s
  | .ldyImm imm => Sys2Proof.Machine.execLdyImm imm s
  | .ldaIzx zp => Sys2Proof.Machine.execLdaIzx zp s
  | .ldxImm imm => Sys2Proof.Machine.execLdxImm imm s
  | .laxIzx zp => Sys2Proof.Machine.execLaxIzx zp s
  | .ldyZp zp => Sys2Proof.Machine.execLdyZp zp s
  | .ldaZp zp => Sys2Proof.Machine.execLdaZp zp s
  | .ldxZp zp => Sys2Proof.Machine.execLdxZp zp s
  | .laxZp zp => Sys2Proof.Machine.execLaxZp zp s
  | .tay => Sys2Proof.Machine.execTay s
  | .ldaImm imm => Sys2Proof.Machine.execLdaImm imm s
  | .tax => Sys2Proof.Machine.execTax s
  | .lxaImm imm => Sys2Proof.Machine.execLxaImm imm s
  | .ldyAbs addr => Sys2Proof.Machine.execLdyAbs addr s
  | .ldaAbs addr => Sys2Proof.Machine.execLdaAbs addr s
  | .ldxAbs addr => Sys2Proof.Machine.execLdxAbs addr s
  | .laxAbs addr => Sys2Proof.Machine.execLaxAbs addr s
  | .bcs off => Sys2Proof.Machine.execBcs off s
  | .ldaIzy zp => Sys2Proof.Machine.execLdaIzy zp s
  | .jamB2 => Sys2Proof.Machine.execJamB2 s
  | .laxIzy zp => Sys2Proof.Machine.execLaxIzy zp s
  | .ldyZpx zp => Sys2Proof.Machine.execLdyZpx zp s
  | .ldaZpx zp => Sys2Proof.Machine.execLdaZpx zp s
  | .ldxZpy zp => Sys2Proof.Machine.execLdxZpy zp s
  | .laxZpy zp => Sys2Proof.Machine.execLaxZpy zp s
  | .clv => Sys2Proof.Machine.execClv s
  | .ldaAby base => Sys2Proof.Machine.execLdaAby base s
  | .tsx => Sys2Proof.Machine.execTsx s
  | .larAby base => Sys2Proof.Machine.execLarAby base s
  | .ldyAbx base => Sys2Proof.Machine.execLdyAbx base s
  | .ldaAbx base => Sys2Proof.Machine.execLdaAbx base s
  | .ldxAby base => Sys2Proof.Machine.execLdxAby base s
  | .laxAby base => Sys2Proof.Machine.execLaxAby base s
  | .cpyImm imm => Sys2Proof.Machine.execCpyImm imm s
  | .cmpIzx zp => Sys2Proof.Machine.execCmpIzx zp s
  | .nopImmC2 imm => Sys2Proof.Machine.execNopImmC2 imm s
  | .dcpIzx zp => Sys2Proof.Machine.execDcpIzx zp s
  | .cpyZp zp => Sys2Proof.Machine.execCpyZp zp s
  | .cmpZp zp => Sys2Proof.Machine.execCmpZp zp s
  | .decZp zp => Sys2Proof.Machine.execDecZp zp s
  | .dcpZp zp => Sys2Proof.Machine.execDcpZp zp s
  | .iny => Sys2Proof.Machine.execIny s
  | .cmpImm imm => Sys2Proof.Machine.execCmpImm imm s
  | .dex => Sys2Proof.Machine.execDex s
  | .axsImm imm => Sys2Proof.Machine.execAxsImm imm s
  | .cpyAbs addr => Sys2Proof.Machine.execCpyAbs addr s
  | .cmpAbs addr => Sys2Proof.Machine.execCmpAbs addr s
  | .decAbs addr => Sys2Proof.Machine.execDecAbs addr s
  | .dcpAbs addr => Sys2Proof.Machine.execDcpAbs addr s
  | .bne off => Sys2Proof.Machine.execBne off s
  | .cmpIzy zp => Sys2Proof.Machine.execCmpIzy zp s
  | .jamD2 => Sys2Proof.Machine.execJamD2 s
  | .dcpIzy zp => Sys2Proof.Machine.execDcpIzy zp s
  | .nopZpxD4 zp => Sys2Proof.Machine.execNopZpxD4 zp s
  | .cmpZpx zp => Sys2Proof.Machine.execCmpZpx zp s
  | .decZpx zp => Sys2Proof.Machine.execDecZpx zp s
  | .dcpZpx zp => Sys2Proof.Machine.execDcpZpx zp s
  | .cld => Sys2Proof.Machine.execCld s
  | .cmpAby base => Sys2Proof.Machine.execCmpAby base s
  | .nopDA => Sys2Proof.Machine.execNopDA s
  | .dcpAby base => Sys2Proof.Machine.execDcpAby base s
  | .nopAbxDC base => Sys2Proof.Machine.execNopAbxDC base s
  | .cmpAbx base => Sys2Proof.Machine.execCmpAbx base s
  | .decAbx base => Sys2Proof.Machine.execDecAbx base s
  | .dcpAbx base => Sys2Proof.Machine.execDcpAbx base s
  | .cpxImm imm => Sys2Proof.Machine.execCpxImm imm s
  | .sbcIzx zp => Sys2Proof.Machine.execSbcIzx zp s
  | .nopImmE2 imm => Sys2Proof.Machine.execNopImmE2 imm s
  | .iscIzx zp => Sys2Proof.Machine.execIscIzx zp s
  | .cpxZp zp => Sys2Proof.Machine.execCpxZp zp s
  | .sbcZp zp => Sys2Proof.Machine.execSbcZp zp s
  | .incZp zp => Sys2Proof.Machine.execIncZp zp s
  | .iscZp zp => Sys2Proof.Machine.execIscZp zp s
  | .inx => Sys2Proof.Machine.execInx s
  | .sbcImm imm => Sys2Proof.Machine.execSbcImm imm s
  | .nop => Sys2Proof.Machine.execNop s
  | .sbcImmEB imm => Sys2Proof.Machine.execSbcImmEB imm s
  | .cpxAbs addr => Sys2Proof.Machine.execCpxAbs addr s
  | .sbcAbs addr => Sys2Proof.Machine.execSbcAbs addr s
  | .incAbs addr => Sys2Proof.Machine.execIncAbs addr s
  | .iscAbs addr => Sys2Proof.Machine.execIscAbs addr s
  | .beq off => Sys2Proof.Machine.execBeq off s
  | .sbcIzy zp => Sys2Proof.Machine.execSbcIzy zp s
  | .jamF2 => Sys2Proof.Machine.execJamF2 s
  | .iscIzy zp => Sys2Proof.Machine.execIscIzy zp s
  | .nopZpxF4 zp => Sys2Proof.Machine.execNopZpxF4 zp s
  | .sbcZpx zp => Sys2Proof.Machine.execSbcZpx zp s
  | .incZpx zp => Sys2Proof.Machine.execIncZpx zp s
  | .iscZpx zp => Sys2Proof.Machine.execIscZpx zp s
  | .sed => Sys2Proof.Machine.execSed s
  | .sbcAby base => Sys2Proof.Machine.execSbcAby base s
  | .nopFA => Sys2Proof.Machine.execNopFA s
  | .iscAby base => Sys2Proof.Machine.execIscAby base s
  | .nopAbxFC base => Sys2Proof.Machine.execNopAbxFC base s
  | .sbcAbx base => Sys2Proof.Machine.execSbcAbx base s
  | .incAbx base => Sys2Proof.Machine.execIncAbx base s
  | .iscAbx base => Sys2Proof.Machine.execIscAbx base s

end Sys2Proof.Machine
end

