-- ==== Sys2Proof/Machine/PpuClock.lean ====
section
/-! DEFINITION. One PPU dot (spec/47_ppu.md R191-R206): the background pipeline, the sprite pipeline, the output
stage and the position. Each step works on the PPU and its cartridge alone. -/

namespace Sys2Proof.Machine

/-! ### Background pipeline (R194-R200) -/

/-- The nametable byte fetch (R194). -/
def fetchTile (b : PpuBus) : PpuBus :=
  let r := ppuRead b (0x2000#14 ||| (b.ppu.v &&& 0x0FFF#15).setWidth 14)
  { r.2 with ppu := { r.2.ppu with bgNextTile := r.1 } }

/-- The address of the attribute byte for `v` (R194). -/
def attributeAddress (v : BitVec 15) : BitVec 14 :=
  (0x23C0#15 ||| (v &&& 0x0C00#15) ||| ((v >>> 4) &&& 0x38#15) ||| ((v >>> 2) &&& 0x07#15)).setWidth 14

/-- Where in the attribute byte the two bits of `v`'s quadrant lie (R194). -/
def attributeShift (v : BitVec 15) : Nat := (((v >>> 4) &&& 4#15) ||| (v &&& 2#15)).toNat

/-- The attribute byte fetch (R194). -/
def fetchAttribute (b : PpuBus) : PpuBus :=
  let r := ppuRead b (attributeAddress b.ppu.v)
  { r.2 with ppu := { r.2.ppu with bgNextAttr := (r.1 >>> attributeShift b.ppu.v) &&& 3#8 } }

/-- The address of the tile's low pattern byte (R194). -/
def patternAddress (p : Ppu) : BitVec 14 :=
  (if p.ctrl.getLsbD 4 then 0x1000#14 else 0) + (p.bgNextTile.setWidth 14 <<< 4)
    + ((p.v >>> 12) &&& 7#15).setWidth 14

/-- The pattern low byte fetch (R194). -/
def fetchPatternLo (b : PpuBus) : PpuBus :=
  let r := ppuRead b (patternAddress b.ppu)
  { r.2 with ppu := { r.2.ppu with bgNextLo := r.1 } }

/-- The pattern high byte fetch, 8 bytes on (R194). -/
def fetchPatternHi (b : PpuBus) : PpuBus :=
  let r := ppuRead b (patternAddress b.ppu + 8)
  { r.2 with ppu := { r.2.ppu with bgNextHi := r.1 } }

/-- A 16-bit shifter with its low byte replaced (R195). -/
def withLow (shifter : BitVec 16) (low : Byte) : BitVec 16 := (shifter &&& 0xFF00#16) ||| low.setWidth 16

/-- Loading the background shifters from the fetch latches (R195). -/
def loadShifters (p : Ppu) : Ppu :=
  { p with
    bgPatLo := withLow p.bgPatLo p.bgNextLo
    bgPatHi := withLow p.bgPatHi p.bgNextHi
    bgAttrLo := withLow p.bgAttrLo (if p.bgNextAttr.getLsbD 0 then 0xFF#8 else 0)
    bgAttrHi := withLow p.bgAttrHi (if p.bgNextAttr.getLsbD 1 then 0xFF#8 else 0) }

/-- Shifting the background shifters by one dot (R196). -/
def shiftBackground (p : Ppu) : Ppu :=
  { p with
    bgPatLo := p.bgPatLo <<< 1
    bgPatHi := p.bgPatHi <<< 1
    bgAttrLo := p.bgAttrLo <<< 1
    bgAttrHi := p.bgAttrHi <<< 1 }

/-- Increment coarse X: after 31 the next nametable (R197). -/
def incCoarseX (v : BitVec 15) : BitVec 15 :=
  if v &&& 0x1F#15 = 31#15 then (v &&& ~~~0x1F#15) ^^^ 0x0400#15 else v + 1

/-- Increment Y: fine Y, then coarse Y, with the nametable changed after row 29 only (R198). -/
def incY (v : BitVec 15) : BitVec 15 :=
  if v >>> 12 < 7#15 then v + 0x1000#15
  else
    let v0 := v &&& 0x0FFF#15
    let coarse := (v0 >>> 5) &&& 0x1F#15
    if coarse = 29#15 then (v0 &&& ~~~0x03E0#15) ^^^ 0x0800#15
    else if coarse = 31#15 then v0 &&& ~~~0x03E0#15
    else v0 + 0x0020#15

/-- Transfer X (R199). -/
def transferX (p : Ppu) : Ppu := { p with v := (p.v &&& ~~~0x041F#15) ||| (p.t &&& 0x041F#15) }

/-- Transfer Y (R200). -/
def transferY (p : Ppu) : Ppu := { p with v := (p.v &&& ~~~0x7BE0#15) ||| (p.t &&& 0x7BE0#15) }

/-! ### Sprite pipeline (R201-R203) -/

/-- The slots as a list, slot 0 first. -/
def slotList (s : Slots) : List Slot := [s.s0, s.s1, s.s2, s.s3, s.s4, s.s5, s.s6, s.s7]

/-- Every slot changed by the same function of its number. -/
def mapSlots (f : Nat → Slot → Slot) (s : Slots) : Slots where
  s0 := f 0 s.s0
  s1 := f 1 s.s1
  s2 := f 2 s.s2
  s3 := f 3 s.s3
  s4 := f 4 s.s4
  s5 := f 5 s.s5
  s6 := f 6 s.s6
  s7 := f 7 s.s7

/-- The sprite height (R201). -/
def spriteHeight (p : Ppu) : Nat := if p.ctrl.getLsbD 5 then 16 else 8

/-- The four bytes of OAM entry `n` (R34). -/
def oamEntry (p : Ppu) (n : Nat) : Sprite where
  y := oamLoad p (4 * n)
  tile := oamLoad p (4 * n + 1)
  attr := oamLoad p (4 * n + 2)
  x := oamLoad p (4 * n + 3)

/-- `0 <= s - y < h` for OAM entry `n` on the current scanline (R201). -/
def spriteInRange (p : Ppu) (n : Nat) : Bool :=
  let y := (oamEntry p n).y.toNat
  decide (y ≤ p.scanline) && decide (p.scanline < y + spriteHeight p)

/-- The entries in range, in OAM order (R201). -/
def spritesInRange (p : Ppu) : List Nat := (List.range 64).filter (spriteInRange p)

/-- Sprite evaluation for the next line: the first eight entries in range are copied, a ninth sets the overflow flag
(R201). -/
def evaluateSprites (p : Ppu) : Ppu :=
  let found := spritesInRange p
  { p with
    slots := mapSlots (fun i s => { s with entry := (found[i]?.map (oamEntry p)).getD Sprite.blank }) p.slots
    spriteCount := min found.length 8
    sprite0InLine := spriteInRange p 0
    status := if 8 < found.length then p.status ||| 0x20#8 else p.status }

/-- A byte with its bits in the opposite order (R202, flip H). -/
def reverseByte (b : Byte) : Byte := b.reverse

/-- The row of a sprite that the line shows, flip V applied (R202), as an integer. R202 states no range, and log entry 9
says when the row is negative: flip V with a sprite size made smaller since the evaluation, or, with either setting of
flip V, an entry that an earlier scanline or frame evaluated (R201 keeps it while rendering is off at dot 257). -/
def spriteRow (p : Ppu) (e : Sprite) : Int :=
  let row : Int := (p.scanline : Int) - e.y.toNat
  if e.attr.getLsbD 7 then spriteHeight p - 1 - row else row

/-- The address of the low pattern byte of a sprite (R202). DESIGN CHOICE (log entry 9): a negative row is ORed in as a
14-bit two's complement number. -/
def spriteAddress (p : Ppu) (e : Sprite) : BitVec 14 :=
  let row := spriteRow p e
  if p.ctrl.getLsbD 5 then
    let table : BitVec 14 := if e.tile.getLsbD 0 then 0x1000#14 else 0
    let t : BitVec 14 := (e.tile &&& 0xFE#8).setWidth 14
    if 8 ≤ row then table ||| ((t + 1) <<< 4) ||| BitVec.ofInt 14 (row - 8)
    else table ||| (t <<< 4) ||| BitVec.ofInt 14 row
  else
    (if p.ctrl.getLsbD 3 then 0x1000#14 else 0) ||| (e.tile.setWidth 14 <<< 4) ||| BitVec.ofInt 14 row

/-- A pattern byte as it enters a slot's shifter: bit-reversed under flip H (R202). -/
def flippedByte (e : Sprite) (b : Byte) : Byte := if e.attr.getLsbD 6 then reverseByte b else b

/-- One slot of the sprite pattern fetch: slot `i`'s two reads if it is in use, else zeros and no read (R202). -/
def fetchSlot (i : Nat) (s : Slot) (b : PpuBus) : Slot × PpuBus :=
  if i < b.ppu.spriteCount then
    let a := spriteAddress b.ppu s.entry
    let lo := ppuRead b a
    let hi := ppuRead lo.2 (a + 8)
    ({ s with patLo := flippedByte s.entry lo.1, patHi := flippedByte s.entry hi.1 }, hi.2)
  else ({ s with patLo := 0, patHi := 0 }, b)

/-- The sprite pattern fetch, slot 0 first (R202). -/
def fetchSprites (b : PpuBus) : PpuBus :=
  let r0 := fetchSlot 0 b.ppu.slots.s0 b
  let r1 := fetchSlot 1 b.ppu.slots.s1 r0.2
  let r2 := fetchSlot 2 b.ppu.slots.s2 r1.2
  let r3 := fetchSlot 3 b.ppu.slots.s3 r2.2
  let r4 := fetchSlot 4 b.ppu.slots.s4 r3.2
  let r5 := fetchSlot 5 b.ppu.slots.s5 r4.2
  let r6 := fetchSlot 6 b.ppu.slots.s6 r5.2
  let r7 := fetchSlot 7 b.ppu.slots.s7 r6.2
  { r7.2 with
    ppu := { r7.2.ppu with
      slots := { s0 := r0.1, s1 := r1.1, s2 := r2.1, s3 := r3.1, s4 := r4.1, s5 := r5.1, s6 := r6.1, s7 := r7.1 } } }

/-- One dot of a slot: its x counter falls, or, once it is 0, its shifters move (R203). -/
def stepSlot (s : Slot) : Slot :=
  if s.entry.x = 0 then { s with patLo := s.patLo <<< 1, patHi := s.patHi <<< 1 }
  else { s with entry := { s.entry with x := s.entry.x - 1 } }

/-- Stepping the sprite shifters (R203). -/
def stepSprites (p : Ppu) : Ppu := { p with slots := mapSlots (fun _ s => stepSlot s) p.slots }

/-! ### Output stage (R204) -/

/-- A layer's pixel at a dot: its palette (0..7) and its two-bit colour, 0 meaning transparent. -/
structure Pixel where
  pal : Nat
  pix : Nat
deriving DecidableEq, Repr

/-- A pair of bits as a number, the high one first. -/
def twoBits (hi lo : Bool) : Nat := 2 * hi.toNat + lo.toNat

/-- The background pixel at column `x`, with the layer and left-edge switches applied (R204 step 1). -/
def backgroundPixel (p : Ppu) (x : Nat) : Pixel :=
  let bit := 15 - p.x.toNat
  { pal := twoBits (p.bgAttrHi.getLsbD bit) (p.bgAttrLo.getLsbD bit)
    pix := if !p.mask.getLsbD 3 || (decide (x < 8) && !p.mask.getLsbD 1) then 0
           else twoBits (p.bgPatHi.getLsbD bit) (p.bgPatLo.getLsbD bit) }

/-- A sprite slot's own two-bit colour: bit 7 of its shifters (R203, R204 step 2). -/
def slotColour (s : Slot) : Nat := twoBits (s.patHi.getLsbD 7) (s.patLo.getLsbD 7)

/-- A slot shows at this dot: its counter is 0 and its colour is opaque (R204 step 2). -/
def slotShows (s : Slot) : Bool := (s.entry.x == 0) && decide (slotColour s ≠ 0)

/-- The winning sprite at a dot: its pixel, its priority bit, and whether it is slot 0 (R204 step 2). -/
structure SpritePixel where
  pixel : Pixel
  behind : Bool
  zero : Bool
deriving DecidableEq, Repr

/-- No sprite shows. -/
def SpritePixel.none : SpritePixel where
  pixel := { pal := 0, pix := 0 }
  behind := false
  zero := false

/-- The first slot of a list that shows, the list starting at slot `i` (R204 step 2). -/
def firstSprite : Nat → List Slot → SpritePixel
  | _, [] => SpritePixel.none
  | i, s :: rest =>
    if slotShows s then
      { pixel := { pal := 4 + (s.entry.attr &&& 3#8).toNat, pix := slotColour s }
        behind := s.entry.attr.getLsbD 5
        zero := i == 0 }
    else firstSprite (i + 1) rest

/-- The sprite pixel at column `x`, with the layer and left-edge switches applied (R204 step 2). -/
def spritePixel (p : Ppu) (x : Nat) : SpritePixel :=
  if !p.mask.getLsbD 4 || (decide (x < 8) && !p.mask.getLsbD 2) then SpritePixel.none
  else firstSprite 0 (slotList p.slots)

/-- Which layer is seen (R204 step 3). -/
def priorityPixel (bg : Pixel) (sp : SpritePixel) : Pixel :=
  if bg.pix = 0 then (if sp.pixel.pix = 0 then { pal := 0, pix := 0 } else sp.pixel)
  else if sp.pixel.pix = 0 then bg
  else if sp.behind then bg else sp.pixel

/-- The sprite-zero test (R204 step 4). -/
def spriteZeroHit (p : Ppu) (x : Nat) (bg : Pixel) (sp : SpritePixel) : Bool :=
  sp.zero && decide (bg.pix ≠ 0) && p.sprite0InLine && p.mask.getLsbD 3 && p.mask.getLsbD 4 && decide (x ≠ 255)

/-- The colour of a pixel: an index that is a multiple of 4 is the backdrop's (R204 step 5). -/
def pixelColour (p : Ppu) (c : Pixel) : BitVec 6 :=
  let i := 4 * c.pal + c.pix
  greyscale p (Memory.load p.pal (if i % 4 = 0 then 0 else i))

/-- Composing the pixel of the current dot into the frame buffer (R204). -/
def composePixel (p : Ppu) : Ppu :=
  let x := p.dot - 1
  let bg := backgroundPixel p x
  let sp := spritePixel p x
  { p with
    status := if spriteZeroHit p x bg sp then p.status ||| 0x40#8 else p.status
    frame := Memory.store p.frame (256 * p.scanline + x) (pixelColour p (priorityPixel bg sp)) }

/-! ### The dot (R191-R193, R205, R206) -/

/-- A visible scanline (R191). -/
def visibleLine (p : Ppu) : Bool := decide (p.scanline ≤ 239)

/-- A render line: visible or pre-render (R191). -/
def renderLine (p : Ppu) : Bool := visibleLine p || decide (p.scanline = 261)

/-- A step taken only under a condition. -/
def onlyIf (c : Bool) (f : PpuBus → PpuBus) (b : PpuBus) : PpuBus := if c then f b else b

/-- A step of the PPU alone, as a step of the PPU and its cartridge. -/
def onPpu (f : Ppu → Ppu) (b : PpuBus) : PpuBus := { b with ppu := f b.ppu }

/-- R192 step 1: the flags and the sprites are cleared. -/
def preRenderClear (p : Ppu) : Ppu :=
  { p with
    status := p.status &&& 0x1F#8
    slots := mapSlots (fun _ s => { s with patLo := 0, patHi := 0 }) p.slots
    spriteCount := 0
    sprite0InLine := false }

/-- R192 step 2.1 after the shift: what the dot's place in the 8-dot cycle does. -/
def fetchCycle (b : PpuBus) : PpuBus :=
  match (b.ppu.dot - 1) % 8 with
  | 0 => fetchTile (onPpu loadShifters b)
  | 2 => fetchAttribute b
  | 4 => fetchPatternLo b
  | 6 => fetchPatternHi b
  | 7 => onPpu (fun p => { p with v := incCoarseX p.v }) b
  | _ => b

/-- R206: the cartridge counts a scanline. -/
def countScanline (b : PpuBus) : PpuBus := { b with cart := cartCountScanline b.cart }

/-- R192 step 2: the work of a render line while rendering, in its nine parts. -/
def renderSteps (b : PpuBus) : PpuBus :=
  let d := b.ppu.dot
  let visible := visibleLine b.ppu
  let preRender := decide (b.ppu.scanline = 261)
  let b := onlyIf ((decide (2 ≤ d) && decide (d ≤ 257)) || (decide (321 ≤ d) && decide (d ≤ 337)))
    (fun b => fetchCycle (onPpu shiftBackground b)) b
  let b := onlyIf (decide (2 ≤ d) && decide (d ≤ 257) && !preRender) (onPpu stepSprites) b
  let b := onlyIf (decide (d = 256)) (onPpu (fun p => { p with v := incY p.v })) b
  let b := onlyIf (decide (d = 257)) (onPpu (fun p => transferX (loadShifters p))) b
  let b := onlyIf (decide (d = 338) || decide (d = 340)) fetchTile b
  let b := onlyIf (preRender && decide (280 ≤ d) && decide (d ≤ 304)) (onPpu transferY) b
  let b := onlyIf (visible && decide (d = 257)) (onPpu evaluateSprites) b
  let b := onlyIf (visible && decide (d = 340)) fetchSprites b
  onlyIf (decide (d = 260)) countScanline b

/-- R205: the vblank flag is set and, if enabled, an NMI is requested. -/
def startVblank (p : Ppu) : Ppu :=
  { p with status := p.status ||| 0x80#8, nmiOut := p.nmiOut || p.ctrl.getLsbD 7 }

/-- The four steps of R192, before the position moves. -/
def dotWork (b : PpuBus) : PpuBus :=
  let s := b.ppu.scanline
  let d := b.ppu.dot
  let b := onlyIf (decide (s = 261) && decide (d = 1)) (onPpu preRenderClear) b
  let b := onlyIf (renderLine b.ppu && rendering b.ppu) renderSteps b
  let b := onlyIf (decide (s = 241) && decide (d = 1)) (onPpu startVblank) b
  onlyIf (decide (s ≤ 239) && decide (1 ≤ d) && decide (d ≤ 256)) (onPpu composePixel) b

/-- The position after a dot, with the skipped dot of an odd frame and the frame parity (R193). -/
def advancePosition (p : Ppu) : Ppu :=
  if p.scanline = 261 ∧ p.dot = 339 ∧ p.oddFrame = true ∧ rendering p = true then
    { p with scanline := 0, dot := 0, oddFrame := !p.oddFrame }
  else if p.dot + 1 = 341 then
    if p.scanline + 1 = 262 then { p with scanline := 0, dot := 0, oddFrame := !p.oddFrame }
    else { p with scanline := p.scanline + 1, dot := 0 }
  else { p with dot := p.dot + 1 }

/-- One PPU `Clock()` (R192, R193). -/
def ppuClock (b : PpuBus) : PpuBus := onPpu advancePosition (dotWork b)

end Sys2Proof.Machine
end

