-- ==== Sys2Proof/Machine/Clock.lean ====
section
/-! DEFINITION. The master clock (spec/49_bus_dma_io.md R238-R243, spec/60_exceptions.md R253): the fetch, the CPU's
boundary, the CPU slot, the DMA cycle, interrupt delivery and one master tick, which is the model's step (R5). -/

namespace Sys2Proof.Machine

/-! ### Fetch (R14, R20, R57, R239) -/

/-- `Fetch8()` (R14). -/
def fetch8 (s : State) : Byte × State :=
  let v := memRead s s.cpu.pc
  (v.1, v.2.setPc (s.cpu.pc + 1))

/-- The operand bytes of an opcode, in address order, and the instruction they complete (R57, R66). -/
def fetchOperands (f : Form) (s : State) : Instr × State :=
  match f with
  | .implied i => (i, s)
  | .byte mk =>
    let v := fetch8 s
    (mk v.1, v.2)
  | .word mk =>
    let lo := fetch8 s
    let hi := fetch8 lo.2
    (mk (wordOf hi.1 lo.1), hi.2)

/-- Fetches one instruction through the bus: PC ends at the address of the next one (R20, R61, R239). -/
def fetchInstr (s : State) : Instr × State :=
  let op := fetch8 s
  fetchOperands (formOf op.1) op.2

/-! ### The CPU slot (R239, R253) -/

/-- A next state changed by a function; a stop stays a stop. -/
def thenNext (o : Host.Outcome State Fault Refusal) (f : State → State) : Host.Outcome State Fault Refusal :=
  match o with
  | .next s => .next (f s)
  | .fault r => .fault r
  | .refused r => .refused r

/-- The fetch and execution of one instruction (R239, R253 case 4). -/
def fetchExecute (s : State) : Host.Outcome State Fault Refusal :=
  let r := fetchInstr s
  exec r.1 r.2

/-- What the CPU does at an instruction boundary: idle when jammed, else NMI, else an unmasked IRQ, else one
instruction (R253). -/
def cpuBoundary (s : State) : Host.Outcome State Fault Refusal :=
  if s.cpu.jammed then .next s
  else if s.cpu.nmiPending then .next (nmiEntry s)
  else if s.cpu.irqLine && !getFlag s.cpu.p .i then .next (irqEntry s)
  else fetchExecute s

/-- The end of a CPU cycle: one cycle of the budget is spent, if any is left (R239). -/
def spendCycle (s : State) : State := s.setBudget (s.cpu.budget - 1)

/-- One CPU cycle (R239). -/
def cpuCycle (s : State) : Host.Outcome State Fault Refusal :=
  thenNext (if s.cpu.budget = 0 then cpuBoundary s else .next s) spendCycle

/-- One DMA cycle: a wait, a read, or a write through $2004 (R241). -/
def dmaCycle (s : State) : State :=
  if 0 < s.dma.wait then s.setDma { s.dma with wait := s.dma.wait - 1 }
  else
    match s.dma.phase with
    | .read =>
      let r := memRead s (wordOf s.dma.page (BitVec.ofNat 8 s.dma.index))
      r.2.setDma { r.2.dma with data := r.1, phase := .write }
    | .write =>
      let s := s.setPpuBus { s.ppuBus with ppu := writeOamData s.ppu s.dma.data }
      s.setDma { s.dma with
        index := s.dma.index + 1
        phase := .read
        active := s.dma.active && decide (s.dma.index + 1 ≠ 256) }

/-- One more slot has passed (R28, R239). -/
def countSlot (s : State) : State := { s with cpuCycles := s.cpuCycles + 1 }

/-- The CPU slot of a tick, used by the DMA engine while a transfer is active (R239). -/
def cpuSlot (s : State) : Host.Outcome State Fault Refusal :=
  thenNext (if s.dma.active then .next (dmaCycle s) else cpuCycle s) countSlot

/-! ### The master tick (R238, R242, R243) -/

/-- Interrupt delivery: the PPU's request becomes a pending NMI, and the IRQ line is the OR of its two sources
(R242, R243). -/
def deliverInterrupts (s : State) : State :=
  let s := (s.setNmiPending (s.cpu.nmiPending || s.ppu.nmiOut)).setPpuBus
    { s.ppuBus with ppu := { s.ppu with nmiOut := false } }
  s.setIrqLine (s.apu.frame.irqPending || cartGetIrq s.cart)

/-- Step (5): the shift registers follow the buttons while the strobe is 1 (R238, R245). -/
def reloadPorts (s : State) : State := if s.ctrl.strobe then s.setCtrl (loadPorts s.ctrl) else s

/-- Steps (4) to (6) of a tick (R238). -/
def endOfTick (s : State) : State :=
  let s := reloadPorts (deliverInterrupts s)
  { s with tick := s.tick + 1 }

/-- The tick is one of the CPU's, every third (R238, D16). -/
def isCpuTick (s : State) : Bool := s.tick % 3 == 0

/-- Steps (1) and (2) of a tick: one PPU dot, then the APU's clock (R238). -/
def clockDevices (s : State) : State :=
  let s' := s.setPpuBus (ppuClock s.ppuBus)
  s'.setApu (apuClock s.params (isCpuTick s) s'.apu)

/-- One master tick (R238). -/
def masterTick (s : State) : Host.Outcome State Fault Refusal :=
  if isCpuTick s then thenNext (cpuSlot (clockDevices s)) endOfTick else .next (endOfTick (clockDevices s))

/-- Every internal index lies in the range the spec gives it (R33, R38, R41): the opposite is the internal-consistency
violation of R9, which no run reaches. -/
def consistent (s : State) : Bool :=
  decide (s.ppu.scanline ≤ 261) && decide (s.ppu.dot ≤ 340) && decide (s.ppu.spriteCount ≤ 8) &&
  decide (s.dma.wait ≤ 2) && decide (s.dma.index ≤ 256) && (!s.dma.active || decide (s.dma.index < 256)) &&
  decide (s.apu.frame.cpuCycleCounter < sequenceLength s.apu.frame.numSteps)

/-- `Clock()`: one master tick, refused on an internal-consistency violation (R9, R238, R249). -/
def clockTick (s : State) : Host.Outcome State Fault Refusal :=
  if consistent s then masterTick s else .refused .inconsistentState

/-! ### Placing an instruction where the next tick fetches it -/

/-- Bytes written to consecutive keys of a memory. -/
def storeBytes : Store 8 → Nat → List Byte → Store 8
  | m, _, [] => m
  | m, a, b :: bs => storeBytes (Memory.store m a b) (a + 1) bs

/-- Code of at most three bytes placed where `Fetch8` reads it, from PC on: in the test cartridge's ROM or in RAM.
Where PC points at neither, or the cartridge is one whose claims are OPEN, PC is set to 0 and the cartridge is taken
out, so that the code can stand in RAM. -/
def placeCode (s : State) (bs : List Byte) : State :=
  let n := s.cpu.pc.toNat
  match s.cart with
  | .board m =>
    if 0x8000 ≤ n ∧ n ≤ 0xFFFD then s.setCart (.board { m with prg := storeBytes m.prg n bs })
    else if n < 0x7FE then s.setRam (storeBytes s.ram n bs)
    else (s.setPc 0).setRam (storeBytes s.ram 0 bs)
  | .absent =>
    if n < 0x7FE then s.setRam (storeBytes s.ram n bs) else (s.setPc 0).setRam (storeBytes s.ram 0 bs)
  | .custom _ => ((s.setCart .absent).setPc 0).setRam (storeBytes s.ram 0 bs)

/-- The machine at an instruction boundary of a CPU tick, with nothing that comes before an instruction there: no
budget left, no transfer, no jam, no pending interrupt (R239, R253). -/
def atBoundary (s : State) : State :=
  let c := s.cpu
  { s with
    cpu := { c with budget := 0, nmiPending := false, irqLine := false, jammed := false }
    dma := { s.dma with active := false }
    tick := 3 * (s.tick / 3) }

end Sys2Proof.Machine
end

