-- ==== Sys2Proof/Machine/Step.lean ====
section
/-! DEFINITION. One step of the machine, and a machine that fetches a given instruction next. -/

namespace Sys2Proof.Machine

/-- One step is one master tick (R5, R238). -/
def step (s : State) : Host.Outcome State Fault Refusal := clockTick s

/-- The machine with the instruction of a table word stored where its next step fetches, at an instruction
boundary. -/
def State.withFetchWord (s : State) (nbits w : Nat) : State := placeCode (atBoundary s) (tableBytes nbits w)

end Sys2Proof.Machine
end

