-- ==== Sys2Proof/Forms.lean ====
section
/-! DEFINITION. The encoding tables of spec/41 to 46 for the instructions with an operand in memory, one list per
mnemonic: the vocabulary in which the statements name the forms of an instruction. Written from the tables' mode,
cycles and extra-cycles columns, not from the meanings. -/

namespace Sys2Proof.Machine

/-- One row of an encoding table: the instruction, its opcode byte, its operand, its base cycle count, and whether a
page cross adds one (R70). -/
structure MemForm where
  instr : Instr
  opcode : Byte
  operand : MemOperand
  cycles : Nat
  page : Bool
deriving DecidableEq, Repr

/-- The operand bytes of a memory operand, in address order (R64, R66). -/
def MemOperand.code : MemOperand → List Byte
  | .zp z => [z]
  | .zpx z => [z]
  | .zpy z => [z]
  | .abs a => [loByte a, hiByte a]
  | .abx a => [loByte a, hiByte a]
  | .aby a => [loByte a, hiByte a]
  | .izx z => [z]
  | .izy z => [z]

/-- One row of the table of branches: the instruction, its opcode byte, and the flag and the value it branches on
(R125-R132). -/
structure BranchForm where
  instr : Instr
  opcode : Byte
  flag : Flag
  value : Bool
deriving DecidableEq, Repr

/-- The eight branches with the displacement byte `d` (R125-R132). -/
def formsBranch (d : Byte) : List BranchForm :=
  [⟨.bcc d, 0x90#8, .c, false⟩,
   ⟨.bcs d, 0xB0#8, .c, true⟩,
   ⟨.beq d, 0xF0#8, .z, true⟩,
   ⟨.bne d, 0xD0#8, .z, false⟩,
   ⟨.bmi d, 0x30#8, .n, true⟩,
   ⟨.bpl d, 0x10#8, .n, false⟩,
   ⟨.bvc d, 0x50#8, .v, false⟩,
   ⟨.bvs d, 0x70#8, .v, true⟩]

/-- The seven flag instructions, with the flag and the value each writes (R142-R148). -/
def formsFlag : List BranchForm :=
  [⟨.clc, 0x18#8, .c, false⟩,
   ⟨.sec, 0x38#8, .c, true⟩,
   ⟨.cli, 0x58#8, .i, false⟩,
   ⟨.sei, 0x78#8, .i, true⟩,
   ⟨.cld, 0xD8#8, .d, false⟩,
   ⟨.sed, 0xF8#8, .d, true⟩,
   ⟨.clv, 0xB8#8, .v, false⟩]

/-- The implied NOPs, documented and not (R149, R171). -/
def formsNopImplied : List Instr := [.nop, .nop1A, .nop3A, .nop5A, .nop7A, .nopDA, .nopFA]

/-- The immediate NOPs (R171). -/
def formsNopImmediate (v : Byte) : List Instr :=
  [.nopImm80 v, .nopImm82 v, .nopImm89 v, .nopImmC2 v, .nopImmE2 v]

/-- The twelve JAM opcodes (R172). -/
def formsJam : List (Instr × Byte) :=
  [(.jam02, 0x02#8), (.jam12, 0x12#8), (.jam22, 0x22#8), (.jam32, 0x32#8), (.jam42, 0x42#8), (.jam52, 0x52#8),
   (.jam62, 0x62#8), (.jam72, 0x72#8), (.jam92, 0x92#8), (.jamB2, 0xB2#8), (.jamD2, 0xD2#8), (.jamF2, 0xF2#8)]

/-- The memory forms of LDA (R89), with operand byte `z` and operand word `w`. -/
def formsLDA (z : Byte) (w : Word) : List MemForm :=
  [⟨.ldaIzx z, 0xA1#8, .izx z, 6, false⟩,
   ⟨.ldaZp z, 0xA5#8, .zp z, 3, false⟩,
   ⟨.ldaAbs w, 0xAD#8, .abs w, 4, false⟩,
   ⟨.ldaIzy z, 0xB1#8, .izy z, 5, true⟩,
   ⟨.ldaZpx z, 0xB5#8, .zpx z, 4, false⟩,
   ⟨.ldaAby w, 0xB9#8, .aby w, 4, true⟩,
   ⟨.ldaAbx w, 0xBD#8, .abx w, 4, true⟩]

/-- The memory forms of LDX (R90), with operand byte `z` and operand word `w`. -/
def formsLDX (z : Byte) (w : Word) : List MemForm :=
  [⟨.ldxZp z, 0xA6#8, .zp z, 3, false⟩,
   ⟨.ldxAbs w, 0xAE#8, .abs w, 4, false⟩,
   ⟨.ldxZpy z, 0xB6#8, .zpy z, 4, false⟩,
   ⟨.ldxAby w, 0xBE#8, .aby w, 4, true⟩]

/-- The memory forms of LDY (R91), with operand byte `z` and operand word `w`. -/
def formsLDY (z : Byte) (w : Word) : List MemForm :=
  [⟨.ldyZp z, 0xA4#8, .zp z, 3, false⟩,
   ⟨.ldyAbs w, 0xAC#8, .abs w, 4, false⟩,
   ⟨.ldyZpx z, 0xB4#8, .zpx z, 4, false⟩,
   ⟨.ldyAbx w, 0xBC#8, .abx w, 4, true⟩]

/-- The memory forms of LAX (R158), with operand byte `z` and operand word `w`. -/
def formsLAX (z : Byte) (w : Word) : List MemForm :=
  [⟨.laxIzx z, 0xA3#8, .izx z, 6, false⟩,
   ⟨.laxZp z, 0xA7#8, .zp z, 3, false⟩,
   ⟨.laxAbs w, 0xAF#8, .abs w, 4, false⟩,
   ⟨.laxIzy z, 0xB3#8, .izy z, 5, true⟩,
   ⟨.laxZpy z, 0xB7#8, .zpy z, 4, false⟩,
   ⟨.laxAby w, 0xBF#8, .aby w, 4, true⟩]

/-- The memory forms of STA (R92), with operand byte `z` and operand word `w`. -/
def formsSTA (z : Byte) (w : Word) : List MemForm :=
  [⟨.staIzx z, 0x81#8, .izx z, 6, false⟩,
   ⟨.staZp z, 0x85#8, .zp z, 3, false⟩,
   ⟨.staAbs w, 0x8D#8, .abs w, 4, false⟩,
   ⟨.staIzy z, 0x91#8, .izy z, 6, false⟩,
   ⟨.staZpx z, 0x95#8, .zpx z, 4, false⟩,
   ⟨.staAby w, 0x99#8, .aby w, 5, false⟩,
   ⟨.staAbx w, 0x9D#8, .abx w, 5, false⟩]

/-- The memory forms of STX (R93), with operand byte `z` and operand word `w`. -/
def formsSTX (z : Byte) (w : Word) : List MemForm :=
  [⟨.stxZp z, 0x86#8, .zp z, 3, false⟩,
   ⟨.stxAbs w, 0x8E#8, .abs w, 4, false⟩,
   ⟨.stxZpy z, 0x96#8, .zpy z, 4, false⟩]

/-- The memory forms of STY (R94), with operand byte `z` and operand word `w`. -/
def formsSTY (z : Byte) (w : Word) : List MemForm :=
  [⟨.styZp z, 0x84#8, .zp z, 3, false⟩,
   ⟨.styAbs w, 0x8C#8, .abs w, 4, false⟩,
   ⟨.styZpx z, 0x94#8, .zpx z, 4, false⟩]

/-- The memory forms of SAX (R157), with operand byte `z` and operand word `w`. -/
def formsSAX (z : Byte) (w : Word) : List MemForm :=
  [⟨.saxIzx z, 0x83#8, .izx z, 6, false⟩,
   ⟨.saxZp z, 0x87#8, .zp z, 3, false⟩,
   ⟨.saxAbs w, 0x8F#8, .abs w, 4, false⟩,
   ⟨.saxZpy z, 0x97#8, .zpy z, 4, false⟩]

/-- The memory forms of ADC (R105), with operand byte `z` and operand word `w`. -/
def formsADC (z : Byte) (w : Word) : List MemForm :=
  [⟨.adcIzx z, 0x61#8, .izx z, 6, false⟩,
   ⟨.adcZp z, 0x65#8, .zp z, 3, false⟩,
   ⟨.adcAbs w, 0x6D#8, .abs w, 4, false⟩,
   ⟨.adcIzy z, 0x71#8, .izy z, 5, true⟩,
   ⟨.adcZpx z, 0x75#8, .zpx z, 4, false⟩,
   ⟨.adcAby w, 0x79#8, .aby w, 4, true⟩,
   ⟨.adcAbx w, 0x7D#8, .abx w, 4, true⟩]

/-- The memory forms of SBC (R106), with operand byte `z` and operand word `w`. -/
def formsSBC (z : Byte) (w : Word) : List MemForm :=
  [⟨.sbcIzx z, 0xE1#8, .izx z, 6, false⟩,
   ⟨.sbcZp z, 0xE5#8, .zp z, 3, false⟩,
   ⟨.sbcAbs w, 0xED#8, .abs w, 4, false⟩,
   ⟨.sbcIzy z, 0xF1#8, .izy z, 5, true⟩,
   ⟨.sbcZpx z, 0xF5#8, .zpx z, 4, false⟩,
   ⟨.sbcAby w, 0xF9#8, .aby w, 4, true⟩,
   ⟨.sbcAbx w, 0xFD#8, .abx w, 4, true⟩]

/-- The memory forms of AND (R107), with operand byte `z` and operand word `w`. -/
def formsAND (z : Byte) (w : Word) : List MemForm :=
  [⟨.andIzx z, 0x21#8, .izx z, 6, false⟩,
   ⟨.andZp z, 0x25#8, .zp z, 3, false⟩,
   ⟨.andAbs w, 0x2D#8, .abs w, 4, false⟩,
   ⟨.andIzy z, 0x31#8, .izy z, 5, true⟩,
   ⟨.andZpx z, 0x35#8, .zpx z, 4, false⟩,
   ⟨.andAby w, 0x39#8, .aby w, 4, true⟩,
   ⟨.andAbx w, 0x3D#8, .abx w, 4, true⟩]

/-- The memory forms of ORA (R108), with operand byte `z` and operand word `w`. -/
def formsORA (z : Byte) (w : Word) : List MemForm :=
  [⟨.oraIzx z, 0x01#8, .izx z, 6, false⟩,
   ⟨.oraZp z, 0x05#8, .zp z, 3, false⟩,
   ⟨.oraAbs w, 0x0D#8, .abs w, 4, false⟩,
   ⟨.oraIzy z, 0x11#8, .izy z, 5, true⟩,
   ⟨.oraZpx z, 0x15#8, .zpx z, 4, false⟩,
   ⟨.oraAby w, 0x19#8, .aby w, 4, true⟩,
   ⟨.oraAbx w, 0x1D#8, .abx w, 4, true⟩]

/-- The memory forms of EOR (R109), with operand byte `z` and operand word `w`. -/
def formsEOR (z : Byte) (w : Word) : List MemForm :=
  [⟨.eorIzx z, 0x41#8, .izx z, 6, false⟩,
   ⟨.eorZp z, 0x45#8, .zp z, 3, false⟩,
   ⟨.eorAbs w, 0x4D#8, .abs w, 4, false⟩,
   ⟨.eorIzy z, 0x51#8, .izy z, 5, true⟩,
   ⟨.eorZpx z, 0x55#8, .zpx z, 4, false⟩,
   ⟨.eorAby w, 0x59#8, .aby w, 4, true⟩,
   ⟨.eorAbx w, 0x5D#8, .abx w, 4, true⟩]

/-- The memory forms of CMP (R110), with operand byte `z` and operand word `w`. -/
def formsCMP (z : Byte) (w : Word) : List MemForm :=
  [⟨.cmpIzx z, 0xC1#8, .izx z, 6, false⟩,
   ⟨.cmpZp z, 0xC5#8, .zp z, 3, false⟩,
   ⟨.cmpAbs w, 0xCD#8, .abs w, 4, false⟩,
   ⟨.cmpIzy z, 0xD1#8, .izy z, 5, true⟩,
   ⟨.cmpZpx z, 0xD5#8, .zpx z, 4, false⟩,
   ⟨.cmpAby w, 0xD9#8, .aby w, 4, true⟩,
   ⟨.cmpAbx w, 0xDD#8, .abx w, 4, true⟩]

/-- The memory forms of CPX (R111), with operand byte `z` and operand word `w`. -/
def formsCPX (z : Byte) (w : Word) : List MemForm :=
  [⟨.cpxZp z, 0xE4#8, .zp z, 3, false⟩,
   ⟨.cpxAbs w, 0xEC#8, .abs w, 4, false⟩]

/-- The memory forms of CPY (R112), with operand byte `z` and operand word `w`. -/
def formsCPY (z : Byte) (w : Word) : List MemForm :=
  [⟨.cpyZp z, 0xC4#8, .zp z, 3, false⟩,
   ⟨.cpyAbs w, 0xCC#8, .abs w, 4, false⟩]

/-- The memory forms of BIT (R113), with operand byte `z` and operand word `w`. -/
def formsBIT (z : Byte) (w : Word) : List MemForm :=
  [⟨.bitZp z, 0x24#8, .zp z, 3, false⟩,
   ⟨.bitAbs w, 0x2C#8, .abs w, 4, false⟩]

/-- The memory forms of ASL (R114), with operand byte `z` and operand word `w`. -/
def formsASL (z : Byte) (w : Word) : List MemForm :=
  [⟨.aslZp z, 0x06#8, .zp z, 5, false⟩,
   ⟨.aslAbs w, 0x0E#8, .abs w, 6, false⟩,
   ⟨.aslZpx z, 0x16#8, .zpx z, 6, false⟩,
   ⟨.aslAbx w, 0x1E#8, .abx w, 7, false⟩]

/-- The memory forms of LSR (R115), with operand byte `z` and operand word `w`. -/
def formsLSR (z : Byte) (w : Word) : List MemForm :=
  [⟨.lsrZp z, 0x46#8, .zp z, 5, false⟩,
   ⟨.lsrAbs w, 0x4E#8, .abs w, 6, false⟩,
   ⟨.lsrZpx z, 0x56#8, .zpx z, 6, false⟩,
   ⟨.lsrAbx w, 0x5E#8, .abx w, 7, false⟩]

/-- The memory forms of ROL (R116), with operand byte `z` and operand word `w`. -/
def formsROL (z : Byte) (w : Word) : List MemForm :=
  [⟨.rolZp z, 0x26#8, .zp z, 5, false⟩,
   ⟨.rolAbs w, 0x2E#8, .abs w, 6, false⟩,
   ⟨.rolZpx z, 0x36#8, .zpx z, 6, false⟩,
   ⟨.rolAbx w, 0x3E#8, .abx w, 7, false⟩]

/-- The memory forms of ROR (R117), with operand byte `z` and operand word `w`. -/
def formsROR (z : Byte) (w : Word) : List MemForm :=
  [⟨.rorZp z, 0x66#8, .zp z, 5, false⟩,
   ⟨.rorAbs w, 0x6E#8, .abs w, 6, false⟩,
   ⟨.rorZpx z, 0x76#8, .zpx z, 6, false⟩,
   ⟨.rorAbx w, 0x7E#8, .abx w, 7, false⟩]

/-- The memory forms of INC (R118), with operand byte `z` and operand word `w`. -/
def formsINC (z : Byte) (w : Word) : List MemForm :=
  [⟨.incZp z, 0xE6#8, .zp z, 5, false⟩,
   ⟨.incAbs w, 0xEE#8, .abs w, 6, false⟩,
   ⟨.incZpx z, 0xF6#8, .zpx z, 6, false⟩,
   ⟨.incAbx w, 0xFE#8, .abx w, 7, false⟩]

/-- The memory forms of DEC (R119), with operand byte `z` and operand word `w`. -/
def formsDEC (z : Byte) (w : Word) : List MemForm :=
  [⟨.decZp z, 0xC6#8, .zp z, 5, false⟩,
   ⟨.decAbs w, 0xCE#8, .abs w, 6, false⟩,
   ⟨.decZpx z, 0xD6#8, .zpx z, 6, false⟩,
   ⟨.decAbx w, 0xDE#8, .abx w, 7, false⟩]

/-- The memory forms of SLO (R151), with operand byte `z` and operand word `w`. -/
def formsSLO (z : Byte) (w : Word) : List MemForm :=
  [⟨.sloIzx z, 0x03#8, .izx z, 8, false⟩,
   ⟨.sloZp z, 0x07#8, .zp z, 5, false⟩,
   ⟨.sloAbs w, 0x0F#8, .abs w, 6, false⟩,
   ⟨.sloIzy z, 0x13#8, .izy z, 8, false⟩,
   ⟨.sloZpx z, 0x17#8, .zpx z, 6, false⟩,
   ⟨.sloAby w, 0x1B#8, .aby w, 7, false⟩,
   ⟨.sloAbx w, 0x1F#8, .abx w, 7, false⟩]

/-- The memory forms of RLA (R152), with operand byte `z` and operand word `w`. -/
def formsRLA (z : Byte) (w : Word) : List MemForm :=
  [⟨.rlaIzx z, 0x23#8, .izx z, 8, false⟩,
   ⟨.rlaZp z, 0x27#8, .zp z, 5, false⟩,
   ⟨.rlaAbs w, 0x2F#8, .abs w, 6, false⟩,
   ⟨.rlaIzy z, 0x33#8, .izy z, 8, false⟩,
   ⟨.rlaZpx z, 0x37#8, .zpx z, 6, false⟩,
   ⟨.rlaAby w, 0x3B#8, .aby w, 7, false⟩,
   ⟨.rlaAbx w, 0x3F#8, .abx w, 7, false⟩]

/-- The memory forms of SRE (R153), with operand byte `z` and operand word `w`. -/
def formsSRE (z : Byte) (w : Word) : List MemForm :=
  [⟨.sreIzx z, 0x43#8, .izx z, 8, false⟩,
   ⟨.sreZp z, 0x47#8, .zp z, 5, false⟩,
   ⟨.sreAbs w, 0x4F#8, .abs w, 6, false⟩,
   ⟨.sreIzy z, 0x53#8, .izy z, 8, false⟩,
   ⟨.sreZpx z, 0x57#8, .zpx z, 6, false⟩,
   ⟨.sreAby w, 0x5B#8, .aby w, 7, false⟩,
   ⟨.sreAbx w, 0x5F#8, .abx w, 7, false⟩]

/-- The memory forms of RRA (R154), with operand byte `z` and operand word `w`. -/
def formsRRA (z : Byte) (w : Word) : List MemForm :=
  [⟨.rraIzx z, 0x63#8, .izx z, 8, false⟩,
   ⟨.rraZp z, 0x67#8, .zp z, 5, false⟩,
   ⟨.rraAbs w, 0x6F#8, .abs w, 6, false⟩,
   ⟨.rraIzy z, 0x73#8, .izy z, 8, false⟩,
   ⟨.rraZpx z, 0x77#8, .zpx z, 6, false⟩,
   ⟨.rraAby w, 0x7B#8, .aby w, 7, false⟩,
   ⟨.rraAbx w, 0x7F#8, .abx w, 7, false⟩]

/-- The memory forms of DCP (R155), with operand byte `z` and operand word `w`. -/
def formsDCP (z : Byte) (w : Word) : List MemForm :=
  [⟨.dcpIzx z, 0xC3#8, .izx z, 8, false⟩,
   ⟨.dcpZp z, 0xC7#8, .zp z, 5, false⟩,
   ⟨.dcpAbs w, 0xCF#8, .abs w, 6, false⟩,
   ⟨.dcpIzy z, 0xD3#8, .izy z, 8, false⟩,
   ⟨.dcpZpx z, 0xD7#8, .zpx z, 6, false⟩,
   ⟨.dcpAby w, 0xDB#8, .aby w, 7, false⟩,
   ⟨.dcpAbx w, 0xDF#8, .abx w, 7, false⟩]

/-- The memory forms of ISC (R156), with operand byte `z` and operand word `w`. -/
def formsISC (z : Byte) (w : Word) : List MemForm :=
  [⟨.iscIzx z, 0xE3#8, .izx z, 8, false⟩,
   ⟨.iscZp z, 0xE7#8, .zp z, 5, false⟩,
   ⟨.iscAbs w, 0xEF#8, .abs w, 6, false⟩,
   ⟨.iscIzy z, 0xF3#8, .izy z, 8, false⟩,
   ⟨.iscZpx z, 0xF7#8, .zpx z, 6, false⟩,
   ⟨.iscAby w, 0xFB#8, .aby w, 7, false⟩,
   ⟨.iscAbx w, 0xFF#8, .abx w, 7, false⟩]

/-- The memory forms of LAR (R165), with operand word `w`. -/
def formsLAR (w : Word) : List MemForm :=
  [⟨.larAby w, 0xBB#8, .aby w, 4, true⟩]

/-- The memory forms of AHX (R167), with operand byte `z` and operand word `w`. -/
def formsAHX (z : Byte) (w : Word) : List MemForm :=
  [⟨.ahxIzy z, 0x93#8, .izy z, 6, false⟩,
   ⟨.ahxAby w, 0x9F#8, .aby w, 5, false⟩]

/-- The memory forms of SHX (R168), with operand word `w`. -/
def formsSHX (w : Word) : List MemForm :=
  [⟨.shxAby w, 0x9E#8, .aby w, 5, false⟩]

/-- The memory forms of SHY (R169), with operand word `w`. -/
def formsSHY (w : Word) : List MemForm :=
  [⟨.shyAbx w, 0x9C#8, .abx w, 5, false⟩]

/-- The memory forms of TAS (R170), with operand word `w`. -/
def formsTAS (w : Word) : List MemForm :=
  [⟨.tasAby w, 0x9B#8, .aby w, 5, false⟩]

/-- The memory forms of NOP (R171), with operand byte `z` and operand word `w`. -/
def formsNOP (z : Byte) (w : Word) : List MemForm :=
  [⟨.nopZp04 z, 0x04#8, .zp z, 3, false⟩,
   ⟨.nopAbs w, 0x0C#8, .abs w, 4, false⟩,
   ⟨.nopZpx14 z, 0x14#8, .zpx z, 4, false⟩,
   ⟨.nopAbx1C w, 0x1C#8, .abx w, 4, true⟩,
   ⟨.nopZpx34 z, 0x34#8, .zpx z, 4, false⟩,
   ⟨.nopAbx3C w, 0x3C#8, .abx w, 4, true⟩,
   ⟨.nopZp44 z, 0x44#8, .zp z, 3, false⟩,
   ⟨.nopZpx54 z, 0x54#8, .zpx z, 4, false⟩,
   ⟨.nopAbx5C w, 0x5C#8, .abx w, 4, true⟩,
   ⟨.nopZp64 z, 0x64#8, .zp z, 3, false⟩,
   ⟨.nopZpx74 z, 0x74#8, .zpx z, 4, false⟩,
   ⟨.nopAbx7C w, 0x7C#8, .abx w, 4, true⟩,
   ⟨.nopZpxD4 z, 0xD4#8, .zpx z, 4, false⟩,
   ⟨.nopAbxDC w, 0xDC#8, .abx w, 4, true⟩,
   ⟨.nopZpxF4 z, 0xF4#8, .zpx z, 4, false⟩,
   ⟨.nopAbxFC w, 0xFC#8, .abx w, 4, true⟩]

end Sys2Proof.Machine
end

