-- ==== Sys2Proof/Machine/Console.lean ====
section
/-! DEFINITION. The host's operations on the core (spec/49_bus_dma_io.md R247, R249) and runs of them. A cartridge
image and a saved state are taken after the host software that parses them (out of scope, R8): `none` stands for bytes
that fail validation. -/

namespace Sys2Proof.Machine

/-- Ticks until a condition on a tick's start and end holds, at most `fuel` of them; `none` when the fuel ran out.
`stop` also carries a memory of its own from tick to tick. -/
def clockUntil {α : Type} (stop : α → State → State → α × Bool) :
    Nat → α → State → Option (Host.Outcome State Fault Refusal)
  | 0, _, _ => none
  | fuel + 1, memo, s =>
    match clockTick s with
    | .next s' =>
      let r := stop memo s s'
      if r.2 then some (.next s') else clockUntil stop fuel r.1 s'
    | .fault r => some (.fault r)
    | .refused r => some (.refused r)

/-- The frame boundary: position (0, 1) (R193). -/
def isFrameBoundary (s : State) : Bool := decide (s.ppu.scanline = 0) && decide (s.ppu.dot = 1)

/-- `ClockFrame()` (R247). From any position the boundary comes within 89342 ticks (R193, R207). -/
def clockFrame (s : State) : Option (Host.Outcome State Fault Refusal) :=
  clockUntil (fun _ _ s' => ((), isFrameBoundary s')) 89343 () s

/-- The tick that starts here starts an instruction or an interrupt entry (R239, R253). -/
def startsInstruction (s : State) : Bool :=
  isCpuTick s && !s.dma.active && decide (s.cpu.budget = 0) && !s.cpu.jammed

/-- The end test of `ClockInstruction()` (R247); its memory is whether an instruction has started in this call. -/
def instructionDone (started : Bool) (s s' : State) : Bool × Bool :=
  let started := started || startsInstruction s
  (started,
   isCpuTick s && ((s.cpu.jammed && !started) ||
     (started && decide (s'.cpu.budget = 0) && !s'.dma.active)))

/-- `ClockInstruction()` (R247): a transfer in progress, the budget left, the instruction and a transfer it starts fit
in the bound. -/
def clockInstruction (s : State) : Option (Host.Outcome State Fault Refusal) :=
  clockUntil instructionDone (3 * (s.cpu.budget + 1100)) false s

/-- A pixel of `GetScreenBuffer()` (R247). -/
def screenPixel (s : State) (row column : Nat) : BitVec 6 := Memory.load s.ppu.frame (256 * row + column)

/-- `GetScreenBuffer()`: 240 rows of 256 palette indices, row-major (R247). -/
def screenBuffer (s : State) : List (BitVec 6) := (List.range 61440).map (Memory.load s.ppu.frame)

/-- `TakeAudioSamples()`: the samples, oldest first, and the machine without them (R247). -/
def takeAudioSamples (s : State) : List (BitVec 16) × State := (s.apu.samples, s.setApu { s.apu with samples := [] })

/-- `SetController(port, b)` (R244). -/
def setController (port : Nat) (b : Byte) (s : State) : Host.Outcome State Fault Refusal :=
  match port with
  | 0 => .next (s.setCtrl { s.ctrl with state0 := b })
  | 1 => .next (s.setCtrl { s.ctrl with state1 := b })
  | _ => .refused (.badControllerPort port)

/-- `InsertCartridge` with a cartridge that parsed: power-on with it, the buttons kept (R247, R269). -/
def insertCartridge (cart : Cart) (s : State) : State := powerOn cart s.ctrl.state0 s.ctrl.state1 s.params

/-- `RemoveCartridge()` (R247). -/
def removeCartridge (s : State) : State := insertCartridge .absent s

/-! ### Saved states -/

/-- A memory in canonical form with every key below a bound. -/
def canonical {w : Nat} (bound : Nat) (m : Store w) : Bool := Memory.wf m && Memory.below bound m

/-- The test cartridge's memories are in canonical form; other cartridges list no memory. -/
def cartCanonical : Cart → Bool
  | .absent => true
  | .board m => canonical 0x10000 m.prg && canonical 0x2000 m.chr
  | .custom _ => true

/-- Every memory of the machine is in canonical form and lists only cells that exist (R33, R41). -/
def memoriesCanonical (s : State) : Bool :=
  canonical 0x800 s.ram && canonical 256 s.ppu.oam && canonical 0x800 s.ppu.nt && canonical 32 s.ppu.pal &&
  canonical 61440 s.ppu.frame && cartCanonical s.cart

/-- The constants the APU units carry: the four timers' floors and the two pulses' `subtractExtra` (R37). -/
def apuConstants (a : Apu) : Bool :=
  decide (a.pulse1.timer.minPeriod = 8) && decide (a.pulse2.timer.minPeriod = 8) &&
  decide (a.triangle.timer.minPeriod = 2) && decide (a.noise.timer.minPeriod = 0) &&
  a.pulse1.sweep.subtractExtra && !a.pulse2.sweep.subtractExtra

/-- Every bit the spec does not store, or stores as a constant, reads as the spec says: U and B of P (R23), bits 4:0 of
the PPU status (R31), bits 4:2 of the OAM attributes (R34), the APU's constants (R37). -/
def fixedBitsHold (s : State) : Bool :=
  getFlag s.cpu.p .u && !getFlag s.cpu.p .b && decide (s.ppu.status &&& 0x1F#8 = 0) &&
  (List.range 64).all (fun n => decide (Memory.load s.ppu.oam (4 * n + 2) &&& 0x1C#8 = 0)) && apuConstants s.apu

/-- The two cartridges are of one kind, so that the state of one is a state of the other. -/
def sameCartKind : Cart → Cart → Bool
  | .absent, .absent => true
  | .board _, .board _ => true
  | .custom _, .custom _ => true
  | _, _ => false

/-- A saved state is valid for a machine: every element of it has a value the tables of spec/10_state.md allow, and its
cartridge state belongs to the cartridge inserted. DESIGN CHOICE (log entry 16): R247 does not say what `valid` is. -/
def validSave (saved s : State) : Bool :=
  consistent saved && memoriesCanonical saved && fixedBitsHold saved && sameCartKind saved.cart s.cart

/-- `LoadState(s)` (R247): the core and the cartridge state of a valid saved state; `none` is a rejection. The
parameters of R11 are no core state, so the machine keeps its own. -/
def loadState (saved : Option State) (s : State) : Option State :=
  match saved with
  | none => none
  | some t => if validSave t s then some { t with params := s.params } else none

/-! ### Operations and runs -/

/-- The host's operations (R247). -/
inductive HostOp where
  | clock
  | clockFrame
  | clockInstruction
  | getScreenBuffer
  | takeAudioSamples
  | setController (port : Nat) (b : Byte)
  | insertCartridge (rom : Option Cart)
  | removeCartridge
  | reset
  | saveState
  | loadState (saved : Option State)
deriving DecidableEq, Repr

/-- What a host operation answers (R247). The savestate's byte format is out of scope: the saved state stands for
it. -/
inductive HostResult where
  | none
  | screen (pixels : List (BitVec 6))
  | samples (s : List (BitVec 16))
  | saved (s : State)
  | ok
  | rejected
deriving DecidableEq, Repr

/-- The effect of a host operation (R247); `none` when the bound on its ticks ran out, which never happens from a
consistent state. -/
def hostEffect (op : HostOp) (s : State) : Option (Host.Outcome State Fault Refusal) :=
  match op with
  | .clock => some (clockTick s)
  | .clockFrame => clockFrame s
  | .clockInstruction => clockInstruction s
  | .getScreenBuffer => some (.next s)
  | .takeAudioSamples => some (.next (takeAudioSamples s).2)
  | .setController port b => some (setController port b s)
  | .insertCartridge (some cart) => some (.next (insertCartridge cart s))
  | .insertCartridge none => some (.next s)
  | .removeCartridge => some (.next (removeCartridge s))
  | .reset => some (.next (softReset s))
  | .saveState => some (.next s)
  | .loadState saved => some (.next ((loadState saved s).getD s))

/-- The result of a host operation (R247). -/
def hostResult (op : HostOp) (s : State) : HostResult :=
  match op with
  | .clock => .none
  | .clockFrame => .none
  | .clockInstruction => .none
  | .getScreenBuffer => .screen (screenBuffer s)
  | .takeAudioSamples => .samples (takeAudioSamples s).1
  | .setController _ _ => .none
  | .insertCartridge rom => if rom.isSome then .ok else .rejected
  | .removeCartridge => .none
  | .reset => .none
  | .saveState => .saved s
  | .loadState saved => if (loadState saved s).isSome then .ok else .rejected

/-- A run: a finite sequence of host operations, which ends at the first stop (R249). -/
def hostRun : List HostOp → State → Option (Host.Outcome State Fault Refusal)
  | [], s => some (.next s)
  | op :: ops, s =>
    match hostEffect op s with
    | some (.next s') => hostRun ops s'
    | o => o

end Sys2Proof.Machine
end

