-- ==== Sys2Proof/WellFormed.lean ====
section
/-! DEFINITION. What a well-formed instruction code is (spec/30_encoding.md R63, R64, R72). The type `Instr`
admits no ill-formed instruction, since each operand has exactly the width its mode gives it; what can be ill formed
is a string of bytes offered as the code of one instruction. The mode table below is written from the opcode map of
R67 by itself, so that it checks the decoder's table. -/

namespace Sys2Proof

/-- The thirteen addressing modes, which are the thirteen formats (R64, R65). -/
inductive Mode where
  | implied
  | accumulator
  | immediate
  | zeroPage
  | zeroPageX
  | zeroPageY
  | absolute
  | absoluteX
  | absoluteY
  | indirect
  | indexedIndirect
  | indirectIndexed
  | relative
deriving DecidableEq, Repr

/-- How many operand bytes follow the opcode in each format (R64). -/
def Mode.operandBytes : Mode → Nat
  | .implied => 0
  | .accumulator => 0
  | .immediate => 1
  | .zeroPage => 1
  | .zeroPageX => 1
  | .zeroPageY => 1
  | .absolute => 2
  | .absoluteX => 2
  | .absoluteY => 2
  | .indirect => 2
  | .indexedIndirect => 1
  | .indirectIndexed => 1
  | .relative => 1

open Mode in
/-- The mode column of the opcode map of R67, one line per high nibble. -/
def modeMap : List (List Mode) :=
  [
   [implied, indexedIndirect, implied, indexedIndirect, zeroPage, zeroPage, zeroPage, zeroPage, implied,
    immediate, accumulator, immediate, absolute, absolute, absolute, absolute],
   [relative, indirectIndexed, implied, indirectIndexed, zeroPageX, zeroPageX, zeroPageX, zeroPageX, implied,
    absoluteY, implied, absoluteY, absoluteX, absoluteX, absoluteX, absoluteX],
   [absolute, indexedIndirect, implied, indexedIndirect, zeroPage, zeroPage, zeroPage, zeroPage, implied,
    immediate, accumulator, immediate, absolute, absolute, absolute, absolute],
   [relative, indirectIndexed, implied, indirectIndexed, zeroPageX, zeroPageX, zeroPageX, zeroPageX, implied,
    absoluteY, implied, absoluteY, absoluteX, absoluteX, absoluteX, absoluteX],
   [implied, indexedIndirect, implied, indexedIndirect, zeroPage, zeroPage, zeroPage, zeroPage, implied,
    immediate, accumulator, immediate, absolute, absolute, absolute, absolute],
   [relative, indirectIndexed, implied, indirectIndexed, zeroPageX, zeroPageX, zeroPageX, zeroPageX, implied,
    absoluteY, implied, absoluteY, absoluteX, absoluteX, absoluteX, absoluteX],
   [implied, indexedIndirect, implied, indexedIndirect, zeroPage, zeroPage, zeroPage, zeroPage, implied,
    immediate, accumulator, immediate, indirect, absolute, absolute, absolute],
   [relative, indirectIndexed, implied, indirectIndexed, zeroPageX, zeroPageX, zeroPageX, zeroPageX, implied,
    absoluteY, implied, absoluteY, absoluteX, absoluteX, absoluteX, absoluteX],
   [immediate, indexedIndirect, immediate, indexedIndirect, zeroPage, zeroPage, zeroPage, zeroPage, implied,
    immediate, implied, immediate, absolute, absolute, absolute, absolute],
   [relative, indirectIndexed, implied, indirectIndexed, zeroPageX, zeroPageX, zeroPageY, zeroPageY, implied,
    absoluteY, implied, absoluteY, absoluteX, absoluteX, absoluteY, absoluteY],
   [immediate, indexedIndirect, immediate, indexedIndirect, zeroPage, zeroPage, zeroPage, zeroPage, implied,
    immediate, implied, immediate, absolute, absolute, absolute, absolute],
   [relative, indirectIndexed, implied, indirectIndexed, zeroPageX, zeroPageX, zeroPageY, zeroPageY, implied,
    absoluteY, implied, absoluteY, absoluteX, absoluteX, absoluteY, absoluteY],
   [immediate, indexedIndirect, immediate, indexedIndirect, zeroPage, zeroPage, zeroPage, zeroPage, implied,
    immediate, implied, immediate, absolute, absolute, absolute, absolute],
   [relative, indirectIndexed, implied, indirectIndexed, zeroPageX, zeroPageX, zeroPageX, zeroPageX, implied,
    absoluteY, implied, absoluteY, absoluteX, absoluteX, absoluteX, absoluteX],
   [immediate, indexedIndirect, immediate, indexedIndirect, zeroPage, zeroPage, zeroPage, zeroPage, implied,
    immediate, implied, immediate, absolute, absolute, absolute, absolute],
   [relative, indirectIndexed, implied, indirectIndexed, zeroPageX, zeroPageX, zeroPageX, zeroPageX, implied,
    absoluteY, implied, absoluteY, absoluteX, absoluteX, absoluteX, absoluteX]]

/-- The mode of an opcode byte (R67): row by high nibble, column by low nibble. -/
def modeOf (op : Byte) : Mode :=
  (modeMap.getD (op.toNat / 16) []).getD (op.toNat % 16) .implied

/-- A code has its opcode byte: an empty string is no instruction (R63). -/
def hasOpcode (bs : List Byte) : Bool := !bs.isEmpty

/-- A code has every operand byte its opcode's mode asks for (R64). -/
def hasOperands : List Byte → Bool
  | [] => true
  | op :: operands => decide ((modeOf op).operandBytes ≤ operands.length)

/-- A code has no byte beyond its operands: the length follows from the opcode byte alone (R72). -/
def hasNothingMore : List Byte → Bool
  | [] => true
  | op :: operands => decide (operands.length ≤ (modeOf op).operandBytes)

/-- The string is the code of exactly one instruction. -/
def wellFormed (bs : List Byte) : Bool := hasOpcode bs && hasOperands bs && hasNothingMore bs

end Sys2Proof
end

