-- ==== Sys2Proof/Safety.lean ====
section
/-! DEFINITION. The terms the statements use: what a safe run is, the invariants of the machine, and what an
instruction leaves unchanged. -/

namespace Sys2Proof.Machine

/-! ### Safe runs -/

/-- The outcome is a next state. -/
def Completes (o : Host.Outcome State Fault Refusal) : Prop := ∃ t, o = .next t

/-- `k` steps from `s` end in `t`, none of them stopping. -/
def Runs : Nat → State → State → Prop
  | 0, s, t => s = t
  | k + 1, s, t => ∃ s', step s = .next s' ∧ Runs k s' t

/-- A state from which every step completes, whatever the program: the internal indices are in range, and the two
policies that end a run are at their defaults (R9, R15, R249). -/
def Safe (s : State) : Prop :=
  consistent s = true ∧ s.params.shPolicy = .formula ∧ s.params.jamPolicy = .halt

/-! ### Invariants -/

/-- The status byte has U = 1 and B = 0 (R23). -/
def statusFixed (p : Byte) : Prop := getFlag p .u = true ∧ getFlag p .b = false

/-- Bits 4:0 of the PPU status byte are not stored (R31). -/
def ppuStatusClean (s : State) : Prop := s.ppu.status &&& 0x1F#8 = 0

/-- An envelope's divider period is its constant volume (R212). -/
def envelopePeriodTied (e : Envelope) : Prop := e.divider.period = e.constantVolume

/-- The three envelopes are tied (R212). -/
def envelopesTied (s : State) : Prop :=
  envelopePeriodTied s.apu.pulse1.envelope ∧ envelopePeriodTied s.apu.pulse2.envelope ∧
  envelopePeriodTied s.apu.noise.envelope

/-- A disabled length counter is 0 (R211). -/
def lengthClamped (l : LengthCounter) : Prop := l.enabled = false → l.counter = 0

/-- The four length counters are clamped (R211). -/
def lengthsClamped (s : State) : Prop :=
  lengthClamped s.apu.pulse1.length ∧ lengthClamped s.apu.pulse2.length ∧ lengthClamped s.apu.triangle.length ∧
  lengthClamped s.apu.noise.length

/-- Attribute bits 4:2 of the OAM are stored as 0 (R34). -/
def oamAttributesClean (s : State) : Prop := ∀ n, Memory.load s.ppu.oam (4 * n + 2) &&& 0x1C#8 = 0

/-! ### What an instruction leaves unchanged -/

/-- The byte of internal RAM an address of $0000-$1FFF reaches (R45). -/
def ramByte (s : State) (a : Word) : Byte := Memory.load s.ram (a.toNat % 0x800)

/-- Two addresses reach the same byte of internal RAM: both lie in $0000-$1FFF and they are mirrors (R45). -/
def sameRamCell (a b : Word) : Prop := a.toNat < 0x2000 ∧ b.toNat < 0x2000 ∧ a.toNat % 0x800 = b.toNat % 0x800

/-- Every byte of internal RAM reads as before, except the bytes at the stored addresses. -/
def RamFrame (s t : State) (stored : List Word) : Prop :=
  ∀ a : Word, a.toNat < 0x2000 → (∀ b ∈ stored, ¬ sameRamCell a b) → ramByte t a = ramByte s a

/-- Every byte of memory a CPU read shows as before, except the bytes at the stored addresses: internal RAM, and, with
a cartridge whose contents are listed, every address from $4018 up. The registers between have rules of their own. -/
def MemoryFrame (s t : State) (stored : List Word) : Prop :=
  RamFrame s t stored ∧
  ((∀ cs, s.cart ≠ .custom cs) → ∀ a : Word, 0x4018 ≤ a.toNat → peek t a = peek s a)

/-- No memory of the core has changed: internal RAM, OAM, the nametables, the palette and the frame buffer. -/
def SameMemories (s t : State) : Prop :=
  t.ram = s.ram ∧ t.ppu.oam = s.ppu.oam ∧ t.ppu.nt = s.ppu.nt ∧ t.ppu.pal = s.ppu.pal ∧ t.ppu.frame = s.ppu.frame

/-- Only the CPU may differ: every device, every memory, the cartridge and the counters are unchanged. -/
def OnlyCpuChanged (s t : State) : Prop := t = s.setCpu t.cpu

/-- Every flag outside a list is unchanged. -/
def FlagsKept (written : List Flag) (p q : Byte) : Prop := ∀ f, f ∉ written → getFlag q f = getFlag p f

/-- N and Z say what a byte is, and every flag but them and a list is unchanged (R14). -/
def FlagsFrom (v : Byte) (alsoWritten : List Flag) (p q : Byte) : Prop :=
  getFlag q .n = v.getLsbD 7 ∧ getFlag q .z = decide (v = 0) ∧ FlagsKept (.n :: .z :: alsoWritten) p q

/-- `r` and `q` are what the adder makes of `a`, `m` and the carry of `p` (R102), as arithmetic on numbers. -/
def AddsTo (a m p r q : Byte) : Prop :=
  r.toNat = (a.toNat + m.toNat + (getFlag p .c).toNat) % 256 ∧
  getFlag q .c = decide (256 ≤ a.toNat + m.toNat + (getFlag p .c).toNat) ∧
  getFlag q .v = ((a ^^^ r) &&& (m ^^^ r)).getLsbD 7 ∧
  FlagsFrom r [.c, .v] p q

/-- `r` and `q` are what SBC makes of `a`, `m` and the carry of `p` (R106): `a - m - (1 - C)`, with C = 1 for no
borrow. -/
def SubtractsTo (a m p r q : Byte) : Prop :=
  (r.toNat + m.toNat + (1 - (getFlag p .c).toNat)) % 256 = a.toNat ∧
  getFlag q .c = decide (m.toNat + (1 - (getFlag p .c).toNat) ≤ a.toNat) ∧
  getFlag q .v = ((a ^^^ r) &&& (~~~m ^^^ r)).getLsbD 7 ∧
  FlagsFrom r [.c, .v] p q

/-- `q` is the status after comparing `r` with `m` (R104). -/
def ComparesTo (r m p q : Byte) : Prop :=
  getFlag q .c = decide (m.toNat ≤ r.toNat) ∧ getFlag q .z = decide (r = m) ∧
  getFlag q .n = (r - m).getLsbD 7 ∧ FlagsKept [.c, .z, .n] p q

/-- A row of an encoding table encodes as its opcode byte and its operand bytes (R64, R67). -/
def Encodes (f : MemForm) : Prop := encode f.instr = f.opcode :: f.operand.code

/-- The byte an operand in memory reads (R75). -/
def operandByte (s : State) (o : MemOperand) : Byte :=
  (memRead (effective s o).2 (effective s o).1.ea).1

/-- The machine after the pointer reads and the operand read of an instruction (R57, R75). -/
def afterOperand (s : State) (o : MemOperand) : State :=
  (memRead (effective s o).2 (effective s o).1.ea).2

/-- The machine after the pointer reads of an instruction that does not read its operand (R57, R92). -/
def afterPointer (s : State) (o : MemOperand) : State := (effective s o).2

/-- The effective address of an operand (R75). -/
def effectiveAddress (s : State) (o : MemOperand) : Word := (effective s o).1.ea

/-- The cycle count of a form: its base count, and one more where the form has the page penalty and the effective
address lies in another page than the base (R70). -/
def formCycles (s : State) (f : MemForm) : Nat :=
  f.cycles + (if f.page = true ∧ hiByte (effective s f.operand).1.ea ≠ hiByte (effective s f.operand).1.base
    then 1 else 0)

/-- After a reading instruction: only the CPU differs from the machine after the operand read, and no byte of memory
has changed. -/
def ReadFrame (s t : State) (o : MemOperand) : Prop :=
  OnlyCpuChanged (afterOperand s o) t ∧ SameMemories s t ∧ MemoryFrame s t []

/-- An instruction without memory access: only the CPU differs. -/
def RegisterFrame (s t : State) : Prop := OnlyCpuChanged s t

/-- After the one write of `v` at `a` on the machine `m`: only the CPU differs from the machine after that write, the
byte is in RAM where the address is RAM's, and every other byte of memory is as in `s` (R45, R48). -/
def WriteFrame (s m t : State) (a : Word) (v : Byte) : Prop :=
  OnlyCpuChanged (memWrite m a v) t ∧ MemoryFrame s t [a] ∧
  (a.toNat < 0x2000 → (cartCpuWrite m.cart a v).1 = false → ramByte t a = v)

/-- The stack cell of a stack pointer, `$0100 | SP` (R21). -/
def stackCell (sp : Byte) : Word := 0x0100#16 ||| sp.setWidth 16

/-- The machine after the writes of several pushes, the first one first, with the stack pointer at `sp` (R14). -/
def afterPushes : State → Byte → List Byte → State
  | s, _, [] => s
  | s, sp, b :: bs => afterPushes (memWrite s (stackCell sp) b) (sp - 1) bs

/-- The cells `n` pushes write, with the stack pointer at `sp` (R14). -/
def pushedCells : Byte → Nat → List Word
  | _, 0 => []
  | sp, n + 1 => stackCell sp :: pushedCells (sp - 1) n

/-- The stack after several pushes on a machine whose cartridge lists its contents: the pushed bytes stand there. -/
def StackHolds (t : State) : Byte → List Byte → Prop
  | _, [] => True
  | sp, b :: bs => ramByte t (stackCell sp) = b ∧ StackHolds t (sp - 1) bs

/-- The bytes `n` pulls read, with the stack pointer at `sp`, and the machine after them (R14). -/
def pulls : State → Byte → Nat → List Byte × State
  | s, _, 0 => ([], s)
  | s, sp, n + 1 =>
    let v := memRead s (stackCell (sp + 1))
    let r := pulls v.2 (sp + 1) n
    (v.1 :: r.1, r.2)

/-- After pushes: only the CPU differs from the machine after the pushes' writes, the bytes stand on the stack, and
every other byte of memory is as before (R14, R21). -/
def PushFrame (s t : State) (bytes : List Byte) : Prop :=
  OnlyCpuChanged (afterPushes s s.cpu.sp bytes) t ∧ MemoryFrame s t (pushedCells s.cpu.sp bytes.length) ∧
  ((∀ cs, s.cart ≠ .custom cs) → StackHolds t s.cpu.sp bytes)

/-- After pulls: only the CPU differs from the machine after the pulls' reads, and no byte of memory has changed. -/
def PullFrame (s t : State) (n : Nat) : Prop :=
  OnlyCpuChanged (pulls s s.cpu.sp n).2 t ∧ SameMemories s t ∧ MemoryFrame s t []

/-- The word a vector holds, read on a machine: its low byte at `a`, its high byte after it (R51, R14). -/
def vectorWord (m : State) (a : Word) : Word := wordOf (memRead (memRead m a).2 (a + 1)).1 (memRead m a).1

/-- The machine after the two reads of a vector (R14). -/
def afterVector (m : State) (a : Word) : State := (memRead (memRead m a).2 (a + 1)).2

/-- After an entry through the vector `a` that pushed three bytes: only the CPU differs from the machine after the
pushes and the vector's reads, the bytes stand on the stack, and every other byte of memory is as before (R254). -/
def EntryFrame (s t : State) (a : Word) (bytes : List Byte) : Prop :=
  OnlyCpuChanged (afterVector (afterPushes s s.cpu.sp bytes) a) t ∧
  MemoryFrame s t (pushedCells s.cpu.sp bytes.length) ∧
  ((∀ cs, s.cart ≠ .custom cs) → StackHolds t s.cpu.sp bytes)

/-- The status byte a push saves: the flags of `p`, with U = 1 and B as given (R23). -/
def PushedStatus (p : Byte) (b : Bool) (v : Byte) : Prop :=
  getFlag v .u = true ∧ getFlag v .b = b ∧ ∀ f, f ≠ .u → f ≠ .b → getFlag v f = getFlag p f

/-- The status a pull restores: the flags of the pulled byte, with U = 1 and B = 0 (R23). -/
def RestoredStatus (v q : Byte) : Prop :=
  getFlag q .u = true ∧ getFlag q .b = false ∧ ∀ f, f ≠ .u → f ≠ .b → getFlag q f = getFlag v f

/-- A function applied a number of times. -/
def repeated {α : Type} (f : α → α) : Nat → α → α
  | 0, x => x
  | n + 1, x => repeated f n (f x)

/-! ### What a family of instructions does -/

/-- The memory forms and the immediate form of a logic instruction: A becomes `op` of A and the operand, N and Z say
what it is, and nothing else changes (R107-R109). -/
def CombinesA (op : Byte → Byte → Byte) (forms : List MemForm) (imm : Byte → Instr) (code : Byte) (s : State) : Prop :=
  (∀ f ∈ forms, Encodes f ∧ ∃ t r, exec f.instr s = .next t ∧ r = op s.cpu.a (operandByte s f.operand) ∧
    t.cpu = { s.cpu with a := r, p := t.cpu.p, budget := formCycles s f } ∧ FlagsFrom r [] s.cpu.p t.cpu.p ∧
    ReadFrame s t f.operand) ∧
  (∀ v : Byte, encode (imm v) = [code, v] ∧ ∃ t r, exec (imm v) s = .next t ∧ r = op s.cpu.a v ∧
    t.cpu = { s.cpu with a := r, p := t.cpu.p, budget := 2 } ∧ FlagsFrom r [] s.cpu.p t.cpu.p ∧ RegisterFrame s t)

/-- The memory forms and the immediate form of a comparison with the register value `r`: only C, Z and N change
(R104). -/
def ComparesRegister (r : Byte) (forms : List MemForm) (imm : Byte → Instr) (code : Byte) (s : State) : Prop :=
  (∀ f ∈ forms, Encodes f ∧ ∃ t, exec f.instr s = .next t ∧
    t.cpu = { s.cpu with p := t.cpu.p, budget := formCycles s f } ∧
    ComparesTo r (operandByte s f.operand) s.cpu.p t.cpu.p ∧ ReadFrame s t f.operand) ∧
  (∀ v : Byte, encode (imm v) = [code, v] ∧ ∃ t, exec (imm v) s = .next t ∧
    t.cpu = { s.cpu with p := t.cpu.p, budget := 2 } ∧ ComparesTo r v s.cpu.p t.cpu.p ∧ RegisterFrame s t)

/-- A shift or rotate of memory: `shifted` of the byte and the old carry, as numbers, is written; N and Z say what it
is, and C is the bit `out` of the byte read (R114-R117). -/
def ShiftsMemory (shifted : Nat → Nat → Nat) (out : Nat) (forms : List MemForm) (s : State) : Prop :=
  ∀ f ∈ forms, Encodes f ∧ ∃ t, ∃ r : Byte, exec f.instr s = .next t ∧
    r.toNat = shifted (operandByte s f.operand).toNat (getFlag s.cpu.p .c).toNat ∧
    t.cpu = { s.cpu with p := t.cpu.p, budget := f.cycles } ∧
    FlagsFrom r [.c] s.cpu.p t.cpu.p ∧ getFlag t.cpu.p .c = (operandByte s f.operand).getLsbD out ∧
    WriteFrame s (afterOperand s f.operand) t (effectiveAddress s f.operand) r

/-- A shift or rotate of the accumulator (R114-R117, R77). -/
def ShiftsA (shifted : Nat → Nat → Nat) (out : Nat) (i : Instr) (code : Byte) (s : State) : Prop :=
  encode i = [code] ∧ ∃ t, exec i s = .next t ∧
    t.cpu.a.toNat = shifted s.cpu.a.toNat (getFlag s.cpu.p .c).toNat ∧
    t.cpu = { s.cpu with a := t.cpu.a, p := t.cpu.p, budget := 2 } ∧
    FlagsFrom t.cpu.a [.c] s.cpu.p t.cpu.p ∧ getFlag t.cpu.p .c = s.cpu.a.getLsbD out ∧ RegisterFrame s t

/-- An increment of memory by `delta` modulo 256: C and V unchanged (R118, R119). -/
def AddsToMemory (delta : Nat) (forms : List MemForm) (s : State) : Prop :=
  ∀ f ∈ forms, Encodes f ∧ ∃ t, ∃ r : Byte, exec f.instr s = .next t ∧
    r.toNat = ((operandByte s f.operand).toNat + delta) % 256 ∧
    t.cpu = { s.cpu with p := t.cpu.p, budget := f.cycles } ∧ FlagsFrom r [] s.cpu.p t.cpu.p ∧
    WriteFrame s (afterOperand s f.operand) t (effectiveAddress s f.operand) r

/-- A shift or rotate of memory whose result is then combined with A (R150). -/
def ShiftsAndCombines (shifted : Nat → Nat → Nat) (out : Nat) (op : Byte → Byte → Byte) (forms : List MemForm)
    (s : State) : Prop :=
  ∀ f ∈ forms, Encodes f ∧ ∃ t, ∃ r : Byte, exec f.instr s = .next t ∧
    r.toNat = shifted (operandByte s f.operand).toNat (getFlag s.cpu.p .c).toNat ∧
    t.cpu = { s.cpu with a := op s.cpu.a r, p := t.cpu.p, budget := f.cycles } ∧
    FlagsFrom (op s.cpu.a r) [.c] s.cpu.p t.cpu.p ∧
    getFlag t.cpu.p .c = (operandByte s f.operand).getLsbD out ∧
    WriteFrame s (afterOperand s f.operand) t (effectiveAddress s f.operand) r

/-- A high-byte store of the register value `reg`, with SP becoming `sp'`: under SH_POLICY = `formula` it writes `reg`
ANDed with the base's high byte plus 1, at the effective address, or, on a page cross, at the address whose high byte
is that value; under SH_POLICY = `refuse` it is refused (R166). -/
def HighStores (reg sp' : Byte) (forms : List MemForm) (s : State) : Prop :=
  ∀ f ∈ forms, Encodes f ∧
    (s.params.shPolicy = .formula → ∃ t value a, exec f.instr s = .next t ∧
      value = reg &&& (hiByte (effective s f.operand).1.base + 1) ∧
      a = (if hiByte (effectiveAddress s f.operand) = hiByte (effective s f.operand).1.base
        then effectiveAddress s f.operand else wordOf value (loByte (effectiveAddress s f.operand))) ∧
      t.cpu = { s.cpu with sp := sp', budget := f.cycles } ∧
      WriteFrame s (afterPointer s f.operand) t a value) ∧
    (s.params.shPolicy = .refuse → exec f.instr s = .refused (.unstableStore f.opcode))

/-! ### Fetching -/

/-- An address whose bytes are plain memory on this machine: internal RAM or the space from $4018 up, with a
cartridge whose contents are listed. Reading it has no side effect. -/
def PlainAddress (s : State) (a : Word) : Prop :=
  (∀ cs, s.cart ≠ .custom cs) ∧ (a.toNat < 0x2000 ∨ 0x4018 ≤ a.toNat)

/-- The bytes at an address and after it, as a side-effect-free read shows them (R47). -/
def peekBytes (s : State) : Word → Nat → List Byte
  | _, 0 => []
  | a, n + 1 => peek s a :: peekBytes s (a + 1) n

/-- The machine at a CPU slot that starts an instruction: no transfer, budget spent, no jam, no interrupt that is
taken first (R239, R253). -/
def AtInstruction (s : State) : Prop :=
  s.dma.active = false ∧ s.cpu.budget = 0 ∧ s.cpu.jammed = false ∧ s.cpu.nmiPending = false ∧
  (s.cpu.irqLine = false ∨ getFlag s.cpu.p .i = true)

end Sys2Proof.Machine
end

