-- ==== Sys2Proof/Certificates/Slice0/Obligations.lean ====
section
/-! DEFINITION. The statements for the provers, in the order of OBLIGATIONS.json. An instruction's statement says that
`exec` answers a next state for every operand and every machine, what that state holds, and what it leaves unchanged;
`exec` runs with PC already at the next instruction (R20), and `budget` is the instruction's cycle count (R25). -/

open Sys2Proof Sys2Proof.Machine

/-! ### Encoding -/

/-- Decoding the code of any instruction, whatever bytes follow it, gives the instruction back (R63, R64, R67). -/
def Obligations.DecodeOfEncode : Prop :=
  ∀ (i : Instr) (rest : List Byte), decode (encode i ++ rest) = .ok (i, rest)

/-- What decoding reads is exactly the code of the instruction it gives: no byte has two meanings and none is dropped
(R67, R72). -/
def Obligations.EncodeOfDecode : Prop :=
  ∀ (bs rest : List Byte) (i : Instr), decode bs = .ok (i, rest) → bs = encode i ++ rest

/-- Decoding is total: every opcode byte decodes, and it alone fixes the length (R72). -/
def Obligations.DecodingIsTotal : Prop :=
  ∀ (op b1 b2 : Byte) (rest : List Byte), ∃ i rest',
    decode (op :: b1 :: b2 :: rest) = .ok (i, rest') ∧ (encode i).head? = some op ∧
    (encode i).length = 1 + (modeOf op).operandBytes ∧ (encode i).length + rest'.length = 3 + rest.length

/-- A byte string is well formed exactly when it is the code of an instruction (R63, R64, R72). -/
def Obligations.WellFormedIsOneInstruction : Prop :=
  ∀ bs : List Byte, wellFormed bs = true ↔ ∃ i, bs = encode i

/-- Words written out from the encoding tables decode to the instructions they stand for: one of each family. -/
def Obligations.KnownWordsDecode : Prop :=
  decodeTableWord 16 0x80A9 = some (.ldaImm 0x80#8) ∧
  decodeTableWord 24 0x02008D = some (.staAbs 0x0200#16) ∧
  decodeTableWord 16 0x5069 = some (.adcImm 0x50#8) ∧
  decodeTableWord 24 0x0200CE = some (.decAbs 0x0200#16) ∧
  decodeTableWord 16 0xFCF0 = some (.beq 0xFC#8) ∧
  decodeTableWord 24 0x01206C = some (.jmpInd 0x0120#16) ∧
  decodeTableWord 8 0x48 = some .pha ∧
  decodeTableWord 16 0x1007 = some (.sloZp 0x10#8)

/-! ### Bus and addressing modes -/

/-- Internal RAM reads back what was written, at every mirror of the address, and no other byte of memory changes
(R45, R48, R59). -/
def Obligations.RamReadsBackTheWrite : Prop :=
  ∀ (s : State) (a b : Word) (v : Byte), (∀ cs, s.cart ≠ .custom cs) → a.toNat < 0x2000 → b.toNat < 0x2000 →
    a.toNat % 0x800 = b.toNat % 0x800 →
    (memRead (memWrite s a v) b).1 = v ∧ (memRead (memWrite s a v) b).2 = memWrite s a v ∧
    MemoryFrame s (memWrite s a v) [a]

/-- The peek returns the byte the read at the same address would return (R47), and a read leaves the CPU and every
memory of the core alone (R46). -/
def Obligations.PeekIsTheReadValue : Prop :=
  ∀ (s : State) (a : Word), peek s a = (memRead s a).1 ∧ (memRead s a).2.cpu = s.cpu ∧ SameMemories s (memRead s a).2

/-- The cartridge comes first: what it claims it answers, and the core does nothing more; unclaimed addresses
$4000-$4014 and $4018-$FFFF read 0 with no effect (R45, R46, R48). -/
def Obligations.CartridgeComesFirst : Prop :=
  ∀ (s : State) (a : Word) (v : Byte),
    (∀ x, (cartCpuRead s.cart a).1 = some x → memRead s a = (x, s.setCart (cartCpuRead s.cart a).2)) ∧
    ((cartCpuWrite s.cart a v).1 = true → memWrite s a v = s.setCart (cartCpuWrite s.cart a v).2) ∧
    ((cartCpuRead s.cart a).1 = none → (0x4000 ≤ a.toNat ∧ a.toNat ≤ 0x4014) ∨ 0x4018 ≤ a.toNat →
      memRead s a = (0, s.setCart (cartCpuRead s.cart a).2))

/-- The memory addressing modes: the effective address and the page-cross base, the direct ones with no memory access;
and, with a cartridge whose contents are listed, where a pointer in page 0 is read from RAM with no effect, both pointer
bytes of the indirect ones come from page 0, the second with wrap-around (R79-R84, R86, R87). -/
def Obligations.AddressingModes : Prop :=
  ∀ (s : State) (z : Byte) (w : Word),
    ((effectiveAddress s (.zp z)).toNat = z.toNat ∧ afterPointer s (.zp z) = s) ∧
    ((effectiveAddress s (.zpx z)).toNat = (z.toNat + s.cpu.x.toNat) % 256 ∧ afterPointer s (.zpx z) = s) ∧
    ((effectiveAddress s (.zpy z)).toNat = (z.toNat + s.cpu.y.toNat) % 256 ∧ afterPointer s (.zpy z) = s) ∧
    (effectiveAddress s (.abs w) = w ∧ afterPointer s (.abs w) = s) ∧
    ((effectiveAddress s (.abx w)).toNat = (w.toNat + s.cpu.x.toNat) % 65536 ∧ afterPointer s (.abx w) = s ∧
      (effective s (.abx w)).1.base = w) ∧
    ((effectiveAddress s (.aby w)).toNat = (w.toNat + s.cpu.y.toNat) % 65536 ∧ afterPointer s (.aby w) = s ∧
      (effective s (.aby w)).1.base = w) ∧
    ((∀ cs, s.cart ≠ .custom cs) → ∀ p q : Byte,
      (p.toNat = (z.toNat + s.cpu.x.toNat) % 256 → q.toNat = (p.toNat + 1) % 256 →
        (effectiveAddress s (.izx z)).toNat = 256 * (ramByte s (q.setWidth 16)).toNat + (ramByte s (p.setWidth 16)).toNat ∧
        afterPointer s (.izx z) = s) ∧
      (p = z → q.toNat = (z.toNat + 1) % 256 →
        (effective s (.izy z)).1.base.toNat =
          256 * (ramByte s (q.setWidth 16)).toNat + (ramByte s (p.setWidth 16)).toNat ∧
        (effectiveAddress s (.izy z)).toNat = ((effective s (.izy z)).1.base.toNat + s.cpu.y.toNat) % 65536 ∧
        afterPointer s (.izy z) = s))

/-! ### Loads and stores -/

/-- LDA (R89): A is the operand byte, N and Z say what it is; every form, with its encoding and cycles. -/
def Obligations.LdaLoadsA : Prop :=
  (∀ (z : Byte) (w : Word) (s : State), ∀ f ∈ formsLDA z w, Encodes f ∧ ∃ t, exec f.instr s = .next t ∧
    t.cpu = { s.cpu with a := operandByte s f.operand, p := t.cpu.p, budget := formCycles s f } ∧
    FlagsFrom (operandByte s f.operand) [] s.cpu.p t.cpu.p ∧ ReadFrame s t f.operand) ∧
  (∀ (v : Byte) (s : State), encode (.ldaImm v) = [0xA9#8, v] ∧ ∃ t, exec (.ldaImm v) s = .next t ∧
    t.cpu = { s.cpu with a := v, p := t.cpu.p, budget := 2 } ∧ FlagsFrom v [] s.cpu.p t.cpu.p ∧ RegisterFrame s t)

/-- LDX and LDY (R90, R91); LAX loads A and X at once (R158); LAR loads A, X and SP with the operand ANDed with SP
(R165). -/
def Obligations.IndexAndDoubleLoads : Prop :=
  (∀ (z : Byte) (w : Word) (s : State), ∀ f ∈ formsLDX z w, Encodes f ∧ ∃ t, exec f.instr s = .next t ∧
    t.cpu = { s.cpu with x := operandByte s f.operand, p := t.cpu.p, budget := formCycles s f } ∧
    FlagsFrom (operandByte s f.operand) [] s.cpu.p t.cpu.p ∧ ReadFrame s t f.operand) ∧
  (∀ (z : Byte) (w : Word) (s : State), ∀ f ∈ formsLDY z w, Encodes f ∧ ∃ t, exec f.instr s = .next t ∧
    t.cpu = { s.cpu with y := operandByte s f.operand, p := t.cpu.p, budget := formCycles s f } ∧
    FlagsFrom (operandByte s f.operand) [] s.cpu.p t.cpu.p ∧ ReadFrame s t f.operand) ∧
  (∀ (v : Byte) (s : State), encode (.ldxImm v) = [0xA2#8, v] ∧ ∃ t, exec (.ldxImm v) s = .next t ∧
    t.cpu = { s.cpu with x := v, p := t.cpu.p, budget := 2 } ∧ FlagsFrom v [] s.cpu.p t.cpu.p ∧ RegisterFrame s t) ∧
  (∀ (v : Byte) (s : State), encode (.ldyImm v) = [0xA0#8, v] ∧ ∃ t, exec (.ldyImm v) s = .next t ∧
    t.cpu = { s.cpu with y := v, p := t.cpu.p, budget := 2 } ∧ FlagsFrom v [] s.cpu.p t.cpu.p ∧ RegisterFrame s t) ∧
  (∀ (z : Byte) (w : Word) (s : State), ∀ f ∈ formsLAX z w, Encodes f ∧ ∃ t, exec f.instr s = .next t ∧
    t.cpu = { s.cpu with
      a := operandByte s f.operand, x := operandByte s f.operand, p := t.cpu.p, budget := formCycles s f } ∧
    FlagsFrom (operandByte s f.operand) [] s.cpu.p t.cpu.p ∧ ReadFrame s t f.operand) ∧
  (∀ (w : Word) (s : State), ∀ f ∈ formsLAR w, Encodes f ∧ ∃ t v, exec f.instr s = .next t ∧
    v = operandByte s f.operand &&& s.cpu.sp ∧
    t.cpu = { s.cpu with a := v, x := v, sp := v, p := t.cpu.p, budget := formCycles s f } ∧
    FlagsFrom v [] s.cpu.p t.cpu.p ∧ ReadFrame s t f.operand)

/-- STA, STX, STY and SAX write one byte at the effective address and change no register but the budget (R92-R94,
R157). -/
def Obligations.StoresWriteOneByte : Prop :=
  ∀ (z : Byte) (w : Word) (s : State),
    (∀ f ∈ formsSTA z w, Encodes f ∧ ∃ t, exec f.instr s = .next t ∧ t.cpu = { s.cpu with budget := f.cycles } ∧
      WriteFrame s (afterPointer s f.operand) t (effectiveAddress s f.operand) s.cpu.a) ∧
    (∀ f ∈ formsSTX z w, Encodes f ∧ ∃ t, exec f.instr s = .next t ∧ t.cpu = { s.cpu with budget := f.cycles } ∧
      WriteFrame s (afterPointer s f.operand) t (effectiveAddress s f.operand) s.cpu.x) ∧
    (∀ f ∈ formsSTY z w, Encodes f ∧ ∃ t, exec f.instr s = .next t ∧ t.cpu = { s.cpu with budget := f.cycles } ∧
      WriteFrame s (afterPointer s f.operand) t (effectiveAddress s f.operand) s.cpu.y) ∧
    (∀ f ∈ formsSAX z w, Encodes f ∧ ∃ t, exec f.instr s = .next t ∧ t.cpu = { s.cpu with budget := f.cycles } ∧
      WriteFrame s (afterPointer s f.operand) t (effectiveAddress s f.operand) (s.cpu.a &&& s.cpu.x))

/-! ### Arithmetic and logic -/

/-- ADC adds the operand and the carry to A (R102, R105). -/
def Obligations.AdcAddsWithCarry : Prop :=
  (∀ (z : Byte) (w : Word) (s : State), ∀ f ∈ formsADC z w, Encodes f ∧ ∃ t, exec f.instr s = .next t ∧
    t.cpu = { s.cpu with a := t.cpu.a, p := t.cpu.p, budget := formCycles s f } ∧
    AddsTo s.cpu.a (operandByte s f.operand) s.cpu.p t.cpu.a t.cpu.p ∧ ReadFrame s t f.operand) ∧
  (∀ (v : Byte) (s : State), encode (.adcImm v) = [0x69#8, v] ∧ ∃ t, exec (.adcImm v) s = .next t ∧
    t.cpu = { s.cpu with a := t.cpu.a, p := t.cpu.p, budget := 2 } ∧
    AddsTo s.cpu.a v s.cpu.p t.cpu.a t.cpu.p ∧ RegisterFrame s t)

/-- SBC subtracts the operand and the borrow from A, by both its immediate opcodes too (R106, R173). -/
def Obligations.SbcSubtractsWithBorrow : Prop :=
  (∀ (z : Byte) (w : Word) (s : State), ∀ f ∈ formsSBC z w, Encodes f ∧ ∃ t, exec f.instr s = .next t ∧
    t.cpu = { s.cpu with a := t.cpu.a, p := t.cpu.p, budget := formCycles s f } ∧
    SubtractsTo s.cpu.a (operandByte s f.operand) s.cpu.p t.cpu.a t.cpu.p ∧ ReadFrame s t f.operand) ∧
  (∀ (v : Byte) (s : State), encode (.sbcImm v) = [0xE9#8, v] ∧ encode (.sbcImmEB v) = [0xEB#8, v] ∧
    exec (.sbcImmEB v) s = exec (.sbcImm v) s ∧ ∃ t, exec (.sbcImm v) s = .next t ∧
    t.cpu = { s.cpu with a := t.cpu.a, p := t.cpu.p, budget := 2 } ∧
    SubtractsTo s.cpu.a v s.cpu.p t.cpu.a t.cpu.p ∧ RegisterFrame s t)

/-- AND, ORA and EOR combine A with the operand (R107-R109). -/
def Obligations.LogicCombinesA : Prop :=
  ∀ (z : Byte) (w : Word) (s : State),
    CombinesA (· &&& ·) (formsAND z w) .andImm 0x29#8 s ∧
    CombinesA (· ||| ·) (formsORA z w) .oraImm 0x09#8 s ∧
    CombinesA (· ^^^ ·) (formsEOR z w) .eorImm 0x49#8 s

/-- CMP, CPX and CPY compare a register with the operand and write only C, Z and N (R104, R110-R112). -/
def Obligations.ComparesSetFlagsOnly : Prop :=
  ∀ (z : Byte) (w : Word) (s : State),
    ComparesRegister s.cpu.a (formsCMP z w) .cmpImm 0xC9#8 s ∧
    ComparesRegister s.cpu.x (formsCPX z w) .cpxImm 0xE0#8 s ∧
    ComparesRegister s.cpu.y (formsCPY z w) .cpyImm 0xC0#8 s

/-- BIT: Z from A AND the operand, N and V copied from the operand, nothing else (R113). -/
def Obligations.BitTestsBits : Prop :=
  ∀ (z : Byte) (w : Word) (s : State), ∀ f ∈ formsBIT z w, Encodes f ∧ ∃ t, exec f.instr s = .next t ∧
    t.cpu = { s.cpu with p := t.cpu.p, budget := formCycles s f } ∧
    getFlag t.cpu.p .z = decide (s.cpu.a &&& operandByte s f.operand = 0) ∧
    getFlag t.cpu.p .n = (operandByte s f.operand).getLsbD 7 ∧
    getFlag t.cpu.p .v = (operandByte s f.operand).getLsbD 6 ∧
    FlagsKept [.z, .n, .v] s.cpu.p t.cpu.p ∧ ReadFrame s t f.operand

/-! ### Shifts, increments and decrements -/

/-- ASL, LSR, ROL and ROR of memory, with one read and one write of the shifted byte, and of the accumulator, with no
memory access; C is the bit shifted out (R114-R117, R77). -/
def Obligations.ShiftsAndRotates : Prop :=
  ∀ (z : Byte) (w : Word) (s : State),
    ShiftsMemory (fun v _ => 2 * v % 256) 7 (formsASL z w) s ∧
    ShiftsMemory (fun v _ => v / 2) 0 (formsLSR z w) s ∧
    ShiftsMemory (fun v c => (2 * v + c) % 256) 7 (formsROL z w) s ∧
    ShiftsMemory (fun v c => v / 2 + 128 * c) 0 (formsROR z w) s ∧
    ShiftsA (fun v _ => 2 * v % 256) 7 .aslAcc 0x0A#8 s ∧
    ShiftsA (fun v _ => v / 2) 0 .lsrAcc 0x4A#8 s ∧
    ShiftsA (fun v c => (2 * v + c) % 256) 7 .rolAcc 0x2A#8 s ∧
    ShiftsA (fun v c => v / 2 + 128 * c) 0 .rorAcc 0x6A#8 s

/-- INC and DEC of memory: the byte plus or minus 1 modulo 256, C and V unchanged (R118, R119). -/
def Obligations.IncrementsOfMemory : Prop :=
  ∀ (z : Byte) (w : Word) (s : State),
    AddsToMemory 1 (formsINC z w) s ∧ AddsToMemory 255 (formsDEC z w) s

/-- INX, INY, DEX, DEY and the six transfers: one register, N and Z from it, except TXS, which sets no flag (R95-R100,
R120-R123). -/
def Obligations.RegisterInstructions : Prop :=
  ∀ s : State,
    (∃ t, exec .tax s = .next t ∧ t.cpu = { s.cpu with x := s.cpu.a, p := t.cpu.p, budget := 2 } ∧
      FlagsFrom s.cpu.a [] s.cpu.p t.cpu.p ∧ RegisterFrame s t) ∧
    (∃ t, exec .tay s = .next t ∧ t.cpu = { s.cpu with y := s.cpu.a, p := t.cpu.p, budget := 2 } ∧
      FlagsFrom s.cpu.a [] s.cpu.p t.cpu.p ∧ RegisterFrame s t) ∧
    (∃ t, exec .txa s = .next t ∧ t.cpu = { s.cpu with a := s.cpu.x, p := t.cpu.p, budget := 2 } ∧
      FlagsFrom s.cpu.x [] s.cpu.p t.cpu.p ∧ RegisterFrame s t) ∧
    (∃ t, exec .tya s = .next t ∧ t.cpu = { s.cpu with a := s.cpu.y, p := t.cpu.p, budget := 2 } ∧
      FlagsFrom s.cpu.y [] s.cpu.p t.cpu.p ∧ RegisterFrame s t) ∧
    (∃ t, exec .tsx s = .next t ∧ t.cpu = { s.cpu with x := s.cpu.sp, p := t.cpu.p, budget := 2 } ∧
      FlagsFrom s.cpu.sp [] s.cpu.p t.cpu.p ∧ RegisterFrame s t) ∧
    (∃ t, exec .txs s = .next t ∧ t.cpu = { s.cpu with sp := s.cpu.x, budget := 2 } ∧ RegisterFrame s t) ∧
    (∃ t, exec .inx s = .next t ∧ t.cpu = { s.cpu with x := t.cpu.x, p := t.cpu.p, budget := 2 } ∧
      t.cpu.x.toNat = (s.cpu.x.toNat + 1) % 256 ∧ FlagsFrom t.cpu.x [] s.cpu.p t.cpu.p ∧ RegisterFrame s t) ∧
    (∃ t, exec .iny s = .next t ∧ t.cpu = { s.cpu with y := t.cpu.y, p := t.cpu.p, budget := 2 } ∧
      t.cpu.y.toNat = (s.cpu.y.toNat + 1) % 256 ∧ FlagsFrom t.cpu.y [] s.cpu.p t.cpu.p ∧ RegisterFrame s t) ∧
    (∃ t, exec .dex s = .next t ∧ t.cpu = { s.cpu with x := t.cpu.x, p := t.cpu.p, budget := 2 } ∧
      t.cpu.x.toNat = (s.cpu.x.toNat + 255) % 256 ∧ FlagsFrom t.cpu.x [] s.cpu.p t.cpu.p ∧ RegisterFrame s t) ∧
    (∃ t, exec .dey s = .next t ∧ t.cpu = { s.cpu with y := t.cpu.y, p := t.cpu.p, budget := 2 } ∧
      t.cpu.y.toNat = (s.cpu.y.toNat + 255) % 256 ∧ FlagsFrom t.cpu.y [] s.cpu.p t.cpu.p ∧ RegisterFrame s t)

/-! ### Control transfer -/

/-- The eight branches: 2 cycles when not taken, and when taken PC is the target and the cycles are 3, or 4 to another
page; nothing else changes (R124-R132, R88). -/
def Obligations.BranchesTakeTheirTarget : Prop :=
  ∀ (d : Byte) (s : State), ∀ f ∈ formsBranch d, encode f.instr = [f.opcode, d] ∧
    (getFlag s.cpu.p f.flag ≠ f.value → exec f.instr s = .next (s.setCpu { s.cpu with budget := 2 })) ∧
    (getFlag s.cpu.p f.flag = f.value → ∀ target : Word,
      (target.toNat : Int) = ((s.cpu.pc.toNat : Int) + d.toInt) % 65536 →
      exec f.instr s = .next (s.setCpu { s.cpu with
        pc := target, budget := if target.toNat / 256 = s.cpu.pc.toNat / 256 then 3 else 4 }))

/-- JMP to an address, and JMP through a pointer whose second byte comes from the pointer's own page (R133, R85). -/
def Obligations.JumpsSetPc : Prop :=
  (∀ (a : Word) (s : State), encode (.jmpAbs a) = [0x4C#8, loByte a, hiByte a] ∧
    exec (.jmpAbs a) s = .next (s.setCpu { s.cpu with pc := a, budget := 3 })) ∧
  (∀ (ptr next : Word) (s : State), next.toNat = 256 * (ptr.toNat / 256) + (ptr.toNat + 1) % 256 →
    encode (.jmpInd ptr) = [0x6C#8, loByte ptr, hiByte ptr] ∧ ∃ t, exec (.jmpInd ptr) s = .next t ∧
    t.cpu = { s.cpu with
      pc := wordOf (memRead (memRead s ptr).2 next).1 (memRead s ptr).1, budget := 5 } ∧
    OnlyCpuChanged (memRead (memRead s ptr).2 next).2 t ∧ SameMemories s t ∧ MemoryFrame s t [])

/-- JSR pushes the address of its last byte, high byte first, and jumps; RTS pulls the low byte, then the high byte, and
goes to the address after the word (R134, R135). -/
def Obligations.SubroutineInstructions : Prop :=
  (∀ (a : Word) (s : State), encode (.jsrAbs a) = [0x20#8, loByte a, hiByte a] ∧ ∃ t, exec (.jsrAbs a) s = .next t ∧
    t.cpu = { s.cpu with pc := a, sp := s.cpu.sp - 2, budget := 6 } ∧
    PushFrame s t [hiByte (s.cpu.pc - 1), loByte (s.cpu.pc - 1)]) ∧
  (∀ s : State, encode .rts = [0x60#8] ∧ ∃ t lo hi, exec .rts s = .next t ∧ (pulls s s.cpu.sp 2).1 = [lo, hi] ∧
    t.cpu = { s.cpu with pc := wordOf hi lo + 1, sp := s.cpu.sp + 2, budget := 6 } ∧ PullFrame s t 2)

/-- A subroutine called and returned from at once: RTS after JSR goes back to the instruction after the JSR with the
stack pointer as it was, on every machine whose cartridge lists its contents, wherever the stack stands. -/
def Obligations.RtsUndoesJsr : Prop :=
  ∀ (a : Word) (s t : State), (∀ cs, s.cart ≠ .custom cs) → exec (.jsrAbs a) s = .next t →
    ∃ u, exec .rts t = .next u ∧ u.cpu = { s.cpu with budget := 6 } ∧
      RamFrame s u (pushedCells s.cpu.sp 2)

/-- BRK: the software interrupt pushes the address after its signature byte and the status with B = 1, sets I and goes
through the IRQ vector (R137, R258). -/
def Obligations.BrkEntersHandler : Prop :=
  ∀ s : State, encode .brk = [0x00#8] ∧ ∃ t st, exec .brk s = .next t ∧ PushedStatus s.cpu.p true st ∧
    EntryFrame s t 0xFFFE#16 [hiByte (s.cpu.pc + 1), loByte (s.cpu.pc + 1), st] ∧
    t.cpu = { s.cpu with
      pc := vectorWord (afterPushes s s.cpu.sp [hiByte (s.cpu.pc + 1), loByte (s.cpu.pc + 1), st]) 0xFFFE#16
      sp := s.cpu.sp - 3, p := t.cpu.p, budget := 7 } ∧
    getFlag t.cpu.p .i = true ∧ FlagsKept [.i] s.cpu.p t.cpu.p

/-- RTI pulls the status, with B = 0 and U = 1 forced, then PC, with no 1 added (R136, R259). -/
def Obligations.RtiReturns : Prop :=
  ∀ s : State, encode .rti = [0x40#8] ∧ ∃ t st lo hi, exec .rti s = .next t ∧
    (pulls s s.cpu.sp 3).1 = [st, lo, hi] ∧ RestoredStatus st t.cpu.p ∧
    t.cpu = { s.cpu with pc := wordOf hi lo, sp := s.cpu.sp + 3, p := t.cpu.p, budget := 6 } ∧ PullFrame s t 3

/-- RTI after the entry of an NMI or an unmasked IRQ, or after BRK, restores every flag but B and U, SP, and the
address the entry pushed, on every machine whose cartridge lists its contents (R136, R254, R259). -/
def Obligations.RtiUndoesEntry : Prop :=
  ∀ (s t : State) (back : Word), (∀ cs, s.cart ≠ .custom cs) → statusFixed s.cpu.p →
    (t = nmiEntry s ∧ back = s.cpu.pc) ∨ (t = irqEntry s ∧ back = s.cpu.pc) ∨
      (exec .brk s = .next t ∧ back = s.cpu.pc + 1) →
    ∃ u, exec .rti t = .next u ∧ u.cpu.pc = back ∧ u.cpu.sp = s.cpu.sp ∧ u.cpu.p = s.cpu.p ∧
      u.cpu.a = s.cpu.a ∧ u.cpu.x = s.cpu.x ∧ u.cpu.y = s.cpu.y

/-! ### Stack, flags, no operation -/

/-- PHA and PHP push one byte: A, or the status with B = 1 and U = 1; PLA and PLP pull one byte: into A with N and Z, or
into P with B = 0 and U = 1 forced (R138-R141, R23). -/
def Obligations.StackInstructions : Prop :=
  ∀ s : State,
    (encode .pha = [0x48#8] ∧ ∃ t, exec .pha s = .next t ∧
      t.cpu = { s.cpu with sp := s.cpu.sp - 1, budget := 3 } ∧ PushFrame s t [s.cpu.a]) ∧
    (encode .php = [0x08#8] ∧ ∃ t v, exec .php s = .next t ∧ PushedStatus s.cpu.p true v ∧
      t.cpu = { s.cpu with sp := s.cpu.sp - 1, budget := 3 } ∧ PushFrame s t [v]) ∧
    (encode .pla = [0x68#8] ∧ ∃ t v, exec .pla s = .next t ∧ (pulls s s.cpu.sp 1).1 = [v] ∧
      t.cpu = { s.cpu with a := v, sp := s.cpu.sp + 1, p := t.cpu.p, budget := 4 } ∧
      FlagsFrom v [] s.cpu.p t.cpu.p ∧ PullFrame s t 1) ∧
    (encode .plp = [0x28#8] ∧ ∃ t v, exec .plp s = .next t ∧ (pulls s s.cpu.sp 1).1 = [v] ∧
      t.cpu = { s.cpu with sp := s.cpu.sp + 1, p := t.cpu.p, budget := 4 } ∧ RestoredStatus v t.cpu.p ∧
      PullFrame s t 1)

/-- The seven flag instructions write their flag and nothing else (R142-R148). -/
def Obligations.FlagInstructionsWriteOneFlag : Prop :=
  ∀ s : State, ∀ f ∈ formsFlag, encode f.instr = [f.opcode] ∧ ∃ t, exec f.instr s = .next t ∧
    t.cpu = { s.cpu with p := t.cpu.p, budget := 2 } ∧ getFlag t.cpu.p f.flag = f.value ∧
    FlagsKept [f.flag] s.cpu.p t.cpu.p ∧ RegisterFrame s t

/-- The NOPs: 2 cycles and nothing else; with a memory operand, the read with its side effects and the cycles of a
read (R149, R171). -/
def Obligations.NopsOnlyRead : Prop :=
  ∀ (z : Byte) (w : Word) (s : State),
    (∀ i ∈ formsNopImplied, exec i s = .next (s.setCpu { s.cpu with budget := 2 })) ∧
    (∀ i ∈ formsNopImmediate z, exec i s = .next (s.setCpu { s.cpu with budget := 2 })) ∧
    (∀ f ∈ formsNOP z w, Encodes f ∧ ∃ t, exec f.instr s = .next t ∧
      t.cpu = { s.cpu with budget := formCycles s f } ∧ ReadFrame s t f.operand)

/-! ### Undocumented instructions -/

/-- SLO, RLA and SRE shift or rotate memory, then combine the byte written with A (R150-R153). -/
def Obligations.ShiftAndCombine : Prop :=
  ∀ (z : Byte) (w : Word) (s : State),
    ShiftsAndCombines (fun v _ => 2 * v % 256) 7 (· ||| ·) (formsSLO z w) s ∧
    ShiftsAndCombines (fun v c => (2 * v + c) % 256) 7 (· &&& ·) (formsRLA z w) s ∧
    ShiftsAndCombines (fun v _ => v / 2) 0 (· ^^^ ·) (formsSRE z w) s

/-- RRA rotates memory right and adds the byte written with the carry the rotate produced; DCP decrements and
compares; ISC increments and subtracts (R150, R154-R156). -/
def Obligations.ModifyAndCompute : Prop :=
  ∀ (z : Byte) (w : Word) (s : State),
    (∀ f ∈ formsRRA z w, Encodes f ∧ ∃ t, ∃ r p' : Byte, exec f.instr s = .next t ∧
      r.toNat = (operandByte s f.operand).toNat / 2 + 128 * (getFlag s.cpu.p .c).toNat ∧
      getFlag p' .c = (operandByte s f.operand).getLsbD 0 ∧ FlagsKept [.c] s.cpu.p p' ∧
      t.cpu = { s.cpu with a := t.cpu.a, p := t.cpu.p, budget := f.cycles } ∧
      AddsTo s.cpu.a r p' t.cpu.a t.cpu.p ∧
      WriteFrame s (afterOperand s f.operand) t (effectiveAddress s f.operand) r) ∧
    (∀ f ∈ formsDCP z w, Encodes f ∧ ∃ t, ∃ r : Byte, exec f.instr s = .next t ∧
      r.toNat = ((operandByte s f.operand).toNat + 255) % 256 ∧
      t.cpu = { s.cpu with p := t.cpu.p, budget := f.cycles } ∧ ComparesTo s.cpu.a r s.cpu.p t.cpu.p ∧
      WriteFrame s (afterOperand s f.operand) t (effectiveAddress s f.operand) r) ∧
    (∀ f ∈ formsISC z w, Encodes f ∧ ∃ t, ∃ r : Byte, exec f.instr s = .next t ∧
      r.toNat = ((operandByte s f.operand).toNat + 1) % 256 ∧
      t.cpu = { s.cpu with a := t.cpu.a, p := t.cpu.p, budget := f.cycles } ∧
      SubtractsTo s.cpu.a r s.cpu.p t.cpu.a t.cpu.p ∧
      WriteFrame s (afterOperand s f.operand) t (effectiveAddress s f.operand) r)

/-- ANC (both opcodes), ALR, ARR and AXS: the immediate combinations of A and X with their own flags (R159-R162). -/
def Obligations.ImmediateCombinations : Prop :=
  ∀ (v : Byte) (s : State),
    (encode (.ancImm0B v) = [0x0B#8, v] ∧ encode (.ancImm2B v) = [0x2B#8, v] ∧
      exec (.ancImm2B v) s = exec (.ancImm0B v) s ∧ ∃ t, exec (.ancImm0B v) s = .next t ∧
      t.cpu = { s.cpu with a := s.cpu.a &&& v, p := t.cpu.p, budget := 2 } ∧
      FlagsFrom (s.cpu.a &&& v) [.c] s.cpu.p t.cpu.p ∧ getFlag t.cpu.p .c = (s.cpu.a &&& v).getLsbD 7 ∧
      RegisterFrame s t) ∧
    (encode (.alrImm v) = [0x4B#8, v] ∧ ∃ t, exec (.alrImm v) s = .next t ∧
      t.cpu = { s.cpu with a := t.cpu.a, p := t.cpu.p, budget := 2 } ∧
      t.cpu.a.toNat = (s.cpu.a &&& v).toNat / 2 ∧ FlagsFrom t.cpu.a [.c] s.cpu.p t.cpu.p ∧
      getFlag t.cpu.p .c = (s.cpu.a &&& v).getLsbD 0 ∧ RegisterFrame s t) ∧
    (encode (.arrImm v) = [0x6B#8, v] ∧ ∃ t, exec (.arrImm v) s = .next t ∧
      t.cpu = { s.cpu with a := t.cpu.a, p := t.cpu.p, budget := 2 } ∧
      t.cpu.a.toNat = (s.cpu.a &&& v).toNat / 2 + 128 * (getFlag s.cpu.p .c).toNat ∧
      FlagsFrom t.cpu.a [.c, .v] s.cpu.p t.cpu.p ∧ getFlag t.cpu.p .c = t.cpu.a.getLsbD 6 ∧
      getFlag t.cpu.p .v = (t.cpu.a.getLsbD 6 ^^ t.cpu.a.getLsbD 5) ∧ RegisterFrame s t) ∧
    (encode (.axsImm v) = [0xCB#8, v] ∧ ∃ t, exec (.axsImm v) s = .next t ∧
      t.cpu = { s.cpu with x := t.cpu.x, p := t.cpu.p, budget := 2 } ∧
      (t.cpu.x.toNat + v.toNat) % 256 = (s.cpu.a &&& s.cpu.x).toNat ∧ FlagsFrom t.cpu.x [.c] s.cpu.p t.cpu.p ∧
      getFlag t.cpu.p .c = decide (v.toNat ≤ (s.cpu.a &&& s.cpu.x).toNat) ∧ RegisterFrame s t)

/-- XAA and LXA, for every value of the two constants the spec leaves OPEN (R163, R164). -/
def Obligations.UnstableImmediates : Prop :=
  ∀ (v : Byte) (s : State),
    (encode (.xaaImm v) = [0x8B#8, v] ∧ ∃ t r, exec (.xaaImm v) s = .next t ∧
      r = (s.cpu.a ||| s.params.xaaMagic) &&& s.cpu.x &&& v ∧
      t.cpu = { s.cpu with a := r, p := t.cpu.p, budget := 2 } ∧ FlagsFrom r [] s.cpu.p t.cpu.p ∧
      RegisterFrame s t) ∧
    (encode (.lxaImm v) = [0xAB#8, v] ∧ ∃ t r, exec (.lxaImm v) s = .next t ∧
      r = (s.cpu.a ||| s.params.lxaMagic) &&& v ∧
      t.cpu = { s.cpu with a := r, x := r, p := t.cpu.p, budget := 2 } ∧ FlagsFrom r [] s.cpu.p t.cpu.p ∧
      RegisterFrame s t)

/-- AHX, SHX, SHY and TAS under SH_POLICY = formula: the register ANDed with the base's high byte plus 1 is written,
at the effective address, or, on a page cross, at the address whose high byte is the value; and under SH_POLICY =
refuse every one of the five opcodes is refused (R166-R170). -/
def Obligations.HighByteStores : Prop :=
  ∀ (z : Byte) (w : Word) (s : State),
    HighStores (s.cpu.a &&& s.cpu.x) s.cpu.sp (formsAHX z w) s ∧
    HighStores s.cpu.x s.cpu.sp (formsSHX w) s ∧
    HighStores s.cpu.y s.cpu.sp (formsSHY w) s ∧
    HighStores (s.cpu.a &&& s.cpu.x) (s.cpu.a &&& s.cpu.x) (formsTAS w) s

/-- The twelve JAM opcodes: under JAM_POLICY = halt the CPU is jammed, and under JAM_POLICY = fault the run ends (R172).
That under halt nothing else changes, the budget included, is the model's choice, log entry 14: R172 says only that a
cycle count is meaningless. -/
def Obligations.JamStopsTheCpu : Prop :=
  ∀ s : State, ∀ f ∈ formsJam, encode f.1 = [f.2] ∧
    (s.params.jamPolicy = .halt → exec f.1 s = .next (s.setCpu { s.cpu with jammed := true })) ∧
    (s.params.jamPolicy = .fault → exec f.1 s = .fault (.jam f.2))

/-- D has no effect on arithmetic: ADC, SBC, RRA, ISC and ARR with D written either way end in the same machine but
for D itself (R103). -/
def Obligations.DecimalFlagIsIgnored : Prop :=
  ∀ (z : Byte) (w : Word) (d : Bool) (s t : State) (i : Instr),
    (i ∈ (formsADC z w ++ formsSBC z w ++ formsRRA z w ++ formsISC z w).map MemForm.instr ∨
      i ∈ [Instr.adcImm z, Instr.sbcImm z, Instr.sbcImmEB z, Instr.arrImm z]) →
    exec i s = .next t →
    exec i (s.setP (setFlag s.cpu.p .d d)) = .next (t.setP (setFlag t.cpu.p .d d))

/-! ### The step, interrupts and DMA -/

/-- A step runs the decoded instruction: at a CPU slot that starts an instruction, with plain memory under its bytes,
the step is one PPU dot and APU clock, then `exec` of the instruction with PC moved past its bytes, then one cycle of
its budget spent, the slot counted, and interrupt delivery (R20, R238, R239). -/
def Obligations.StepRunsDecodedInstruction : Prop :=
  ∀ (s : State) (i : Instr) (rest : List Byte), consistent s = true → isCpuTick s = true → AtInstruction s →
    decode (peekBytes s s.cpu.pc 3) = .ok (i, rest) →
    (∀ k, k < (encode i).length → PlainAddress s (s.cpu.pc + BitVec.ofNat 16 k)) →
    step s = thenNext (exec i ((clockDevices s).setPc (s.cpu.pc + BitVec.ofNat 16 (encode i).length)))
      (fun t => endOfTick (countSlot (spendCycle t)))

/-- At an instruction boundary outside a transfer: a jammed CPU idles, else a pending NMI is entered whatever I is, else
an IRQ with I = 0; an IRQ with I = 1 is not taken and an instruction is fetched (R253, R261). -/
def Obligations.BoundaryPriority : Prop :=
  ∀ s : State, consistent s = true → isCpuTick s = true → s.dma.active = false → s.cpu.budget = 0 →
    (s.cpu.jammed = true → step s = .next (endOfTick (countSlot (spendCycle (clockDevices s))))) ∧
    (s.cpu.jammed = false → s.cpu.nmiPending = true →
      step s = .next (endOfTick (countSlot (spendCycle (nmiEntry (clockDevices s)))))) ∧
    (s.cpu.jammed = false → s.cpu.nmiPending = false → s.cpu.irqLine = true → getFlag s.cpu.p .i = false →
      step s = .next (endOfTick (countSlot (spendCycle (irqEntry (clockDevices s)))))) ∧
    (s.cpu.jammed = false → s.cpu.nmiPending = false → s.cpu.irqLine = true → getFlag s.cpu.p .i = true →
      step s = thenNext (fetchExecute (clockDevices s)) (fun t => endOfTick (countSlot (spendCycle t))))

/-- The NMI and IRQ entries push PC and the status with B = 0, set I, leave D and every other flag and register, go
through their vector and take 7 cycles; the NMI entry takes its request back (R254-R256). The IRQ is stated for
MAPPER_IRQ_ACK = level, the default. -/
def Obligations.InterruptEntries : Prop :=
  ∀ s : State,
    (∃ st, PushedStatus s.cpu.p false st ∧ EntryFrame s (nmiEntry s) 0xFFFA#16 [hiByte s.cpu.pc, loByte s.cpu.pc, st] ∧
      (nmiEntry s).cpu = { s.cpu with
        pc := vectorWord (afterPushes s s.cpu.sp [hiByte s.cpu.pc, loByte s.cpu.pc, st]) 0xFFFA#16
        sp := s.cpu.sp - 3, p := (nmiEntry s).cpu.p, budget := 7, nmiPending := false } ∧
      getFlag (nmiEntry s).cpu.p .i = true ∧ FlagsKept [.i] s.cpu.p (nmiEntry s).cpu.p) ∧
    (s.params.mapperIrqAck = .level → ∃ st, PushedStatus s.cpu.p false st ∧
      EntryFrame s (irqEntry s) 0xFFFE#16 [hiByte s.cpu.pc, loByte s.cpu.pc, st] ∧
      (irqEntry s).cpu = { s.cpu with
        pc := vectorWord (afterPushes s s.cpu.sp [hiByte s.cpu.pc, loByte s.cpu.pc, st]) 0xFFFE#16
        sp := s.cpu.sp - 3, p := (irqEntry s).cpu.p, budget := 7 } ∧
      getFlag (irqEntry s).cpu.p .i = true ∧ FlagsKept [.i] s.cpu.p (irqEntry s).cpu.p)

/-- The CPU waits: on a tick that is not the CPU's, while a transfer is active, and while its budget lasts, no register
changes, and the budget falls by one exactly when the CPU had the slot (R238, R239, R262). -/
def Obligations.CpuWaits : Prop :=
  ∀ s : State, consistent s = true →
    (isCpuTick s = false ∨ s.dma.active = true → ∃ t, step s = .next t ∧
      t.cpu = { s.cpu with nmiPending := t.cpu.nmiPending, irqLine := t.cpu.irqLine } ∧ t.ram = s.ram) ∧
    (isCpuTick s = true → s.dma.active = false → s.cpu.budget ≠ 0 → ∃ t, step s = .next t ∧
      t.cpu = { s.cpu with
        budget := s.cpu.budget - 1, nmiPending := t.cpu.nmiPending, irqLine := t.cpu.irqLine } ∧ t.ram = s.ram)

/-- Interrupt delivery: after every step the PPU's request is taken, the IRQ line is the OR of the frame IRQ and the
cartridge's, and at the start of vertical blank with NMI enabled an NMI is pending (R205, R242, R243). -/
def Obligations.InterruptDelivery : Prop :=
  ∀ s t : State, step s = .next t →
    t.ppu.nmiOut = false ∧ t.cpu.irqLine = (t.apu.frame.irqPending || cartGetIrq t.cart) ∧
    (s.ppu.scanline = 241 → s.ppu.dot = 1 → s.ppu.ctrl.getLsbD 7 = true → t.cpu.nmiPending = true) ∧
    t.tick = s.tick + 1 ∧ t.cpuCycles = s.cpuCycles + (if isCpuTick s then 1 else 0)

/-- A whole OAM DMA from a page of plain memory: 513 or 514 slots by the parity of the slot of the $4014 write, 256
bytes copied to OAM from `oamAddr` on, and neither the CPU, nor RAM, nor `oamAddr` changed (R240, R241). Pages of device
registers and unknown cartridges are left out. On a machine whose transfer is already active, where R240 says no write
comes, the write starts the transfer again: the model's choice, log entry 21. -/
def Obligations.OamDmaCopiesThePage : Prop :=
  ∀ (s : State) (page : Byte) (n : Nat), (∀ cs, s.cart ≠ .custom cs) → page.toNat < 0x20 ∨ 0x41 ≤ page.toNat →
    n = 513 + (s.cpuCycles + 1) % 2 →
    (∀ k, k < n → (repeated dmaCycle k (memWrite s 0x4014#16 page)).dma.active = true) ∧
    (repeated dmaCycle n (memWrite s 0x4014#16 page)).dma.active = false ∧
    (repeated dmaCycle n (memWrite s 0x4014#16 page)).ppu.oamAddr = s.ppu.oamAddr ∧
    (repeated dmaCycle n (memWrite s 0x4014#16 page)).cpu = s.cpu ∧
    (repeated dmaCycle n (memWrite s 0x4014#16 page)).ram = s.ram ∧
    (∀ i : Byte, oamLoad (repeated dmaCycle n (memWrite s 0x4014#16 page)).ppu (s.ppu.oamAddr + i).toNat =
      oamMask (s.ppu.oamAddr + i).toNat (peek s (wordOf page i)))

/-! ### Reset and power-on -/

/-- The reset entry: PC from the reset vector, SP down by 3 with no write, I set, every other flag and A, X, Y unchanged,
no pending NMI and no jam, 7 cycles (R257); and the soft reset under RESET_SCOPE = cpu_only is that entry with the
transfer abandoned and nothing else (R271). RESET_SCOPE = cpu_ppu_apu is left out. That a soft reset keeps the cartridge
state the two vector reads leave is the model's choice, log entry 26. -/
def Obligations.ResetEntryEffects : Prop :=
  ∀ s : State,
    ((resetEntry s).cpu = { s.cpu with
        pc := vectorWord s 0xFFFC#16, sp := s.cpu.sp - 3, p := (resetEntry s).cpu.p
        nmiPending := false, jammed := false, budget := 7 } ∧
      getFlag (resetEntry s).cpu.p .i = true ∧ FlagsKept [.i] s.cpu.p (resetEntry s).cpu.p ∧
      OnlyCpuChanged (afterVector s 0xFFFC#16) (resetEntry s) ∧ SameMemories s (resetEntry s) ∧
      MemoryFrame s (resetEntry s) []) ∧
    (s.params.resetScope = .cpuOnly →
      softReset s = resetEntry (s.setDma { s.dma with active := false }))

/-- Power-on with no cartridge and no button pressed is the state the machine starts in: every value of the table of
R270, with PC = 0, SP = $FD and P = $24 (R50, R269, R270). -/
def Obligations.PowerOnIsReset : Prop :=
  powerOn .absent 0 0 Config.params = State.reset ∧ State.reset.cpu.sp = 0xFD#8 ∧ State.reset.cpu.p = 0x24#8 ∧
    State.reset.cpu.pc = 0#16 ∧ State.reset.cpu.budget = 7 ∧ State.reset.ppu.scanline = 261 ∧
    State.reset.ppu.dot = 0 ∧ State.reset.apu.noise.shift = 1#15 ∧ State.reset.apu.frame.numSteps = .fourStep

/-! ### Invariants -/

/-- Every step keeps every internal index in the range the spec gives it (R33, R38, R41), so that the consistency
violation of R9 is never reached. Which ranges are checked is the model's choice: log entry 12. -/
def Obligations.ConsistencyKept : Prop :=
  ∀ s t : State, consistent s = true → step s = .next t → consistent t = true

/-- Every step keeps every memory in its canonical form, with no cell the hardware does not have (R33, R41). The
canonical form is the model's choice: log entry 7. -/
def Obligations.MemoriesKept : Prop :=
  ∀ s t : State, memoriesCanonical s = true → step s = .next t → memoriesCanonical t = true

/-- Every step keeps U = 1 and B = 0 in P: every write of P forces them so (R23); and no step changes the parameters,
which are a field of the state by the model's choice (log entry 2). -/
def Obligations.StatusBitsKept : Prop :=
  ∀ s t : State, statusFixed s.cpu.p → step s = .next t → statusFixed t.cpu.p ∧ t.params = s.params

/-- Every step keeps the devices' own invariants: the PPU status stores no low bits (R31), OAM attributes no bits 4:2
(R34), an envelope's divider period is its volume (R212), a disabled length counter is 0 (R211), and the LFSR is
not 0 (R40). -/
def Obligations.DeviceInvariantsKept : Prop :=
  ∀ s t : State, step s = .next t →
    (ppuStatusClean s → ppuStatusClean t) ∧ (oamAttributesClean s → oamAttributesClean t) ∧
    (envelopesTied s → envelopesTied t) ∧ (lengthsClamped s → lengthsClamped t) ∧
    (s.apu.noise.shift ≠ 0 → t.apu.noise.shift ≠ 0)

/-- The machine after reset has every invariant (R269, R270); the canonical form of the memories among them is the
model's choice (log entry 7). -/
def Obligations.ResetHasInvariants : Prop :=
  consistent State.reset = true ∧ memoriesCanonical State.reset = true ∧ statusFixed State.reset.cpu.p ∧
    ppuStatusClean State.reset ∧ oamAttributesClean State.reset ∧ envelopesTied State.reset ∧
    lengthsClamped State.reset ∧ State.reset.apu.noise.shift ≠ 0 ∧ Safe State.reset

/-- With the default policies no program stops the core: from a safe machine every number of steps completes and ends in
a safe machine (R9, R249, R252). -/
def Obligations.SafeRunsNeverStop : Prop :=
  ∀ (k : Nat) (s : State), Safe s → ∃ t, Runs k s t ∧ Safe t

/-- A step stops only as the spec says: with a fault only at a JAM opcode under JAM_POLICY = fault, and with a refusal
only at one of the five high-byte stores under SH_POLICY = refuse or on an internal inconsistency (R15, R249). -/
def Obligations.StopsAreTheSpecs : Prop :=
  ∀ s : State,
    (∀ r, step s = .fault r → s.params.jamPolicy = .fault ∧ ∃ f ∈ formsJam, r = .jam f.2) ∧
    (∀ r, step s = .refused r →
      (r = .inconsistentState ∧ consistent s = false) ∨
      (s.params.shPolicy = .refuse ∧ ∃ op ∈ [0x93#8, 0x9B#8, 0x9C#8, 0x9E#8, 0x9F#8], r = .unstableStore op))

/-! ### PPU -/

/-- Two $2005 writes set the scroll: coarse and fine X from the first byte, coarse and fine Y from the second, the
nametable bits kept; and two $2006 writes set `t` and `v` to the 14-bit address (R187, R188). -/
def Obligations.ScrollAndAddressWrites : Prop :=
  ∀ (s : State) (d1 d2 : Byte), (∀ cs, s.cart ≠ .custom cs) → s.ppu.w = false →
    (∃ t, t = memWrite (memWrite s 0x2005#16 d1) 0x2005#16 d2 ∧ t.ppu.w = false ∧ t.ppu.v = s.ppu.v ∧
      t.ppu.x.toNat = d1.toNat % 8 ∧ t.ppu.t.toNat % 32 = d1.toNat / 8 ∧ t.ppu.t.toNat / 32 % 32 = d2.toNat / 8 ∧
      t.ppu.t.toNat / 4096 = d2.toNat % 8 ∧ t.ppu.t.toNat / 1024 % 4 = s.ppu.t.toNat / 1024 % 4) ∧
    (∃ t, t = memWrite (memWrite s 0x2006#16 d1) 0x2006#16 d2 ∧ t.ppu.w = false ∧ t.ppu.v = t.ppu.t ∧
      t.ppu.v.toNat = 256 * (d1.toNat % 64) + d2.toNat)

/-- A byte written to a nametable through $2007 is read back through $2007 by the second read after the address is set
again, for addresses $2000-$3DFF: reads below $3F00 are delayed by one access (R189, R190, R277). -/
def Obligations.VramReadsBack : Prop :=
  ∀ (s t : State) (hi lo d : Byte), (∀ cs, s.cart ≠ .custom cs) → s.ppu.w = false →
    0x20 ≤ hi.toNat % 64 → hi.toNat % 64 < 0x3E →
    t = memWrite (memWrite (memWrite (memWrite (memWrite s 0x2006#16 hi) 0x2006#16 lo) 0x2007#16 d)
      0x2006#16 hi) 0x2006#16 lo →
    (memRead (memRead t 0x2007#16).2 0x2007#16).1 = d ∧ (memRead t 0x2007#16).1 = s.ppu.readBuffer

/-- While rendering is off, the PPU's position after any number of dots is the start's plus that number, modulo the
89342 dots of a frame (R193, R207). -/
def Obligations.PpuPositionCounts : Prop :=
  ∀ (k : Nat) (b : PpuBus), rendering b.ppu = false → b.ppu.scanline ≤ 261 → b.ppu.dot ≤ 340 →
    (repeated ppuClock k b).ppu.dot ≤ 340 ∧
    341 * (repeated ppuClock k b).ppu.scanline + (repeated ppuClock k b).ppu.dot =
      (341 * b.ppu.scanline + b.ppu.dot + k) % 89342

/-! ### APU and controllers -/

/-- A divider with a constant period P, whatever its counter c, pulses at clock j (counted from 0) exactly when j is c
plus a multiple of P + 1 (R208). -/
def Obligations.DividerPulses : Prop :=
  ∀ (w : Nat) (d : Divider w) (j : Nat),
    (repeated (fun e : Divider w => e.clock.2) j d).clock.1 =
      decide (d.counter.toNat ≤ j ∧ (j - d.counter.toNat) % (d.period.toNat + 1) = 0)

/-- The frame IRQ: from a fresh 4-step sequence with the IRQ enabled, it is pending from the 29828th CPU cycle on, and
the sequence is 29830 cycles long (R219). -/
def Obligations.FrameIrqTiming : Prop :=
  ∀ (a : Apu) (k : Nat), a.frame.numSteps = .fourStep → a.frame.inhibitInterrupt = false →
    a.frame.irqPending = false → a.frame.cpuCycleCounter = 0 → k ≤ 29830 →
    (repeated frameCycle k a).frame.irqPending = decide (29828 ≤ k) ∧
    (repeated frameCycle k a).frame.cpuCycleCounter = k % 29830

/-- Channel enables and status through the bus: a $4015 read shows which length counters run and the frame IRQ and
clears that IRQ; after a $4015 write of 0 every length counter is 0 and a length load is lost; an enabled channel
loads its table entry (R211, R231, R232). -/
def Obligations.ChannelEnables : Prop :=
  ∀ (s : State) (d e : Byte), (∀ cs, s.cart ≠ .custom cs) →
    (memRead s 0x4015#16).2.apu.frame.irqPending = false ∧
    (memRead (memWrite (memWrite s 0x4015#16 0) 0x4003#16 e) 0x4015#16).1 =
      (if s.apu.frame.irqPending then 0x40#8 else 0) ∧
    (d.getLsbD 0 = true →
      (memWrite (memWrite s 0x4015#16 d) 0x4003#16 e).apu.pulse1.length.counter.toNat =
        lengthTable.getD (e.toNat / 8) 0 ∧
      (memRead (memWrite (memWrite s 0x4015#16 d) 0x4003#16 e) 0x4015#16).1.getLsbD 0 = true)

/-- The output sample: -32768 when every length counter is 0, in both mix modes; and with pulse 1 at 15 and the others
silent, -23015 in the table mode, the spec's example (R234-R236). -/
def Obligations.MixerSamples : Prop :=
  ∀ (k : Params) (a : Apu),
    (a.pulse1.length.counter = 0 → a.pulse2.length.counter = 0 → a.triangle.length.counter = 0 →
      a.noise.length.counter = 0 → (currentSample k.mixMode a).toInt = -32768) ∧
    (a.pulse1.value = 15 → a.pulse2.value = 0 → a.triangle.value = 0 → a.noise.value = 0 →
      (currentSample .table a).toInt = -23015)

/-- Eight reads of $4016 after a strobe give the buttons A, B, Select, Start, Up, Down, Left, Right in bit 0, with the
open-bus pattern above, and later reads give 0 (R245, R246). -/
def Obligations.ControllerShiftsOut : Prop :=
  ∀ (s : State) (k : Nat), (∀ cs, s.cart ≠ .custom cs) →
    (memRead (repeated (fun t => (memRead t 0x4016#16).2) k (memWrite (memWrite s 0x4016#16 1) 0x4016#16 0)) 0x4016#16).1 =
      (s.params.ctrlOpenBus &&& 0xFE#8) ||| (if k < 8 ∧ s.ctrl.state0.getLsbD (7 - k) = true then 1#8 else 0)
end

