-- ==== Sys2Proof/Laws/Memory.lean ====
section
/-! SUPPORT. The laws of the memory operations: what a load gives after a store, and that every operation keeps the
canonical form and the bound on the keys. -/

namespace Sys2Proof.Machine

variable {w : Nat}

@[simp] theorem Memory.load_nil (a : Nat) : Memory.load ([] : Store w) a = 0 := rfl

theorem Memory.load_erase_same (m : Store w) (a : Nat) : Memory.load (Memory.erase m a) a = 0 := by
  induction m with
  | nil => rfl
  | cons c m ih =>
    obtain ⟨k, v⟩ := c
    by_cases h : k = a
    · simp [Memory.erase, h, ih]
    · simp [Memory.erase, Memory.load, h, ih]

theorem Memory.load_erase_other (m : Store w) {a b : Nat} (h : b ≠ a) :
    Memory.load (Memory.erase m a) b = Memory.load m b := by
  induction m with
  | nil => rfl
  | cons c m ih =>
    obtain ⟨k, v⟩ := c
    by_cases hk : k = a
    · subst hk
      simp [Memory.erase, Memory.load, ih, Ne.symm h]
    · simp only [Memory.erase, hk, if_false, Memory.load, ih]

theorem Memory.load_insert_other (m : Store w) {a b : Nat} (v : BitVec w) (h : b ≠ a) :
    Memory.load (Memory.insert m a v) b = Memory.load m b := by
  induction m with
  | nil => simp [Memory.insert, Memory.load, Ne.symm h]
  | cons c m ih =>
    obtain ⟨k, x⟩ := c
    by_cases hk : k < a
    · simp only [Memory.insert, hk, if_true, Memory.load, ih]
    · simp only [Memory.insert, hk, if_false, Memory.load, Ne.symm h]

theorem Memory.load_insert_same (m : Store w) (a : Nat) (v : BitVec w) :
    Memory.load (Memory.insert m a v) a = v := by
  induction m with
  | nil => simp [Memory.insert, Memory.load]
  | cons c m ih =>
    obtain ⟨k, x⟩ := c
    by_cases hk : k < a
    · simp only [Memory.insert, hk, if_true, Memory.load, ih, Nat.ne_of_lt hk, if_false]
    · simp only [Memory.insert, hk, if_false, Memory.load, if_true]

/-- Reading the key a store wrote gives the value written. -/
@[simp] theorem Memory.load_store_same (m : Store w) (a : Nat) (v : BitVec w) :
    Memory.load (Memory.store m a v) a = v := by
  by_cases h : v = 0
  · simp only [Memory.store, h, if_true, Memory.load_erase_same]
  · simp only [Memory.store, h, if_false, Memory.load_insert_same]

/-- A store leaves every other key alone. -/
theorem Memory.load_store_other (m : Store w) {a b : Nat} (v : BitVec w) (h : b ≠ a) :
    Memory.load (Memory.store m a v) b = Memory.load m b := by
  by_cases h0 : v = 0
  · simp only [Memory.store, h0, if_true, Memory.load_erase_other m h]
  · simp only [Memory.store, h0, if_false, Memory.load_insert_other _ v h, Memory.load_erase_other m h]

theorem Memory.all_erase (q : Nat × BitVec w → Bool) (m : Store w) (a : Nat) (h : m.all q = true) :
    (Memory.erase m a).all q = true := by
  induction m with
  | nil => rfl
  | cons c m ih =>
    obtain ⟨k, v⟩ := c
    rw [List.all_cons, Bool.and_eq_true] at h
    by_cases hk : k = a
    · simp only [Memory.erase, hk, if_true, ih h.2]
    · simp only [Memory.erase, hk, if_false, List.all_cons, h.1, ih h.2, Bool.and_self]

theorem Memory.all_insert (q : Nat × BitVec w → Bool) (m : Store w) (a : Nat) (v : BitVec w) (h : m.all q = true)
    (hq : q (a, v) = true) : (Memory.insert m a v).all q = true := by
  induction m with
  | nil => simp [Memory.insert, hq]
  | cons c m ih =>
    obtain ⟨k, x⟩ := c
    have h' := h
    rw [List.all_cons, Bool.and_eq_true] at h
    by_cases hk : k < a
    · simp only [Memory.insert, hk, if_true, List.all_cons, h.1, ih h.2, Bool.and_self]
    · simp only [Memory.insert, hk, if_false, List.all_cons, hq, h.1, h.2, Bool.and_self]

theorem Memory.wf_erase (m : Store w) (a : Nat) (h : Memory.wf m = true) : Memory.wf (Memory.erase m a) = true := by
  induction m with
  | nil => rfl
  | cons c m ih =>
    obtain ⟨k, v⟩ := c
    simp only [Memory.wf, Bool.and_eq_true] at h
    by_cases hk : k = a
    · simp only [Memory.erase, hk, if_true, ih h.2]
    · simp only [Memory.erase, hk, if_false, Memory.wf, h.1.1, Memory.all_erase _ m a h.1.2, ih h.2, Bool.and_self]

/-- No entry of an erased memory has the erased key. -/
theorem Memory.erase_ne (m : Store w) (a : Nat) :
    (Memory.erase m a).all (fun c => decide (c.1 ≠ a)) = true := by
  induction m with
  | nil => rfl
  | cons c m ih =>
    obtain ⟨k, v⟩ := c
    by_cases hk : k = a
    · simp only [Memory.erase, hk, if_true, ih]
    · simp only [Memory.erase, hk, if_false, List.all_cons, ih, ne_eq, not_false_iff, decide_true, Bool.and_self]

theorem Memory.wf_insert (m : Store w) (a : Nat) (v : BitVec w) (h : Memory.wf m = true) (hv : v ≠ 0)
    (hm : m.all (fun c => decide (c.1 ≠ a)) = true) : Memory.wf (Memory.insert m a v) = true := by
  induction m with
  | nil => simpa [Memory.insert, Memory.wf] using hv
  | cons c m ih =>
    obtain ⟨k, x⟩ := c
    simp only [Memory.wf, Bool.and_eq_true] at h
    simp only [List.all_cons, Bool.and_eq_true, decide_eq_true_eq] at hm
    by_cases hk : k < a
    · simp only [Memory.insert, hk, if_true, Memory.wf, h.1.1, ih h.2 hm.2, Bool.true_and, Bool.and_true]
      exact Memory.all_insert _ m a v h.1.2 (by simpa using hk)
    · have hlt : a < k := by have := hm.1; omega
      simp only [Memory.insert, hk, if_false, Memory.wf, List.all_cons, h.1.1, h.1.2, h.2, hlt, decide_true,
        Bool.true_and, Bool.and_true, Bool.and_eq_true, bne_iff_ne, ne_eq]
      refine ⟨hv, ?_⟩
      have := h.1.2
      rw [List.all_eq_true] at this ⊢
      intro c hc
      have := this c hc
      simp only [decide_eq_true_eq] at this ⊢
      omega

/-- A store keeps the canonical form. -/
theorem Memory.wf_store (m : Store w) (a : Nat) (v : BitVec w) (h : Memory.wf m = true) :
    Memory.wf (Memory.store m a v) = true := by
  by_cases h0 : v = 0
  · simp only [Memory.store, h0, if_true, Memory.wf_erase m a h]
  · simp only [Memory.store, h0, if_false]
    exact Memory.wf_insert _ a v (Memory.wf_erase m a h) h0 (Memory.erase_ne m a)

/-- A store below the bound keeps every key below it. -/
theorem Memory.below_store {bound : Nat} (m : Store w) (a : Nat) (v : BitVec w)
    (h : Memory.below bound m = true) (ha : a < bound) : Memory.below bound (Memory.store m a v) = true := by
  by_cases h0 : v = 0
  · simp only [Memory.store, h0, if_true]
    exact Memory.all_erase _ m a h
  · simp only [Memory.store, h0, if_false]
    exact Memory.all_insert _ _ a v (Memory.all_erase _ m a h) (by simpa using ha)

/-- Storing several bytes keeps the canonical form. -/
theorem storeBytes_wf (bs : List Byte) (m : Store 8) (a : Nat) (h : Memory.wf m = true) :
    Memory.wf (storeBytes m a bs) = true := by
  induction bs generalizing m a with
  | nil => exact h
  | cons b bs ih => exact ih _ _ (Memory.wf_store m a b h)

end Sys2Proof.Machine
end

