-- ==== Sys2Proof/Laws/State.lean ====
section
/-! SUPPORT. One lemma per field per update of the machine, each true by definition, so that no later proof unfolds a
record update. -/

namespace Sys2Proof.Machine

/-! ### setA -/

@[simp] theorem State.setA_ppu (s : State) (v : Byte) : (s.setA v).ppu = s.ppu := rfl
@[simp] theorem State.setA_apu (s : State) (v : Byte) : (s.setA v).apu = s.apu := rfl
@[simp] theorem State.setA_dma (s : State) (v : Byte) : (s.setA v).dma = s.dma := rfl
@[simp] theorem State.setA_ctrl (s : State) (v : Byte) : (s.setA v).ctrl = s.ctrl := rfl
@[simp] theorem State.setA_ram (s : State) (v : Byte) : (s.setA v).ram = s.ram := rfl
@[simp] theorem State.setA_cart (s : State) (v : Byte) : (s.setA v).cart = s.cart := rfl
@[simp] theorem State.setA_tick (s : State) (v : Byte) : (s.setA v).tick = s.tick := rfl
@[simp] theorem State.setA_cpuCycles (s : State) (v : Byte) : (s.setA v).cpuCycles = s.cpuCycles := rfl
@[simp] theorem State.setA_params (s : State) (v : Byte) : (s.setA v).params = s.params := rfl
@[simp] theorem State.setA_cpu_a (s : State) (v : Byte) : (s.setA v).cpu.a = v := rfl
@[simp] theorem State.setA_cpu_x (s : State) (v : Byte) : (s.setA v).cpu.x = s.cpu.x := rfl
@[simp] theorem State.setA_cpu_y (s : State) (v : Byte) : (s.setA v).cpu.y = s.cpu.y := rfl
@[simp] theorem State.setA_cpu_sp (s : State) (v : Byte) : (s.setA v).cpu.sp = s.cpu.sp := rfl
@[simp] theorem State.setA_cpu_pc (s : State) (v : Byte) : (s.setA v).cpu.pc = s.cpu.pc := rfl
@[simp] theorem State.setA_cpu_p (s : State) (v : Byte) : (s.setA v).cpu.p = s.cpu.p := rfl
@[simp] theorem State.setA_cpu_budget (s : State) (v : Byte) : (s.setA v).cpu.budget = s.cpu.budget := rfl
@[simp] theorem State.setA_cpu_nmiPending (s : State) (v : Byte) : (s.setA v).cpu.nmiPending = s.cpu.nmiPending := rfl
@[simp] theorem State.setA_cpu_irqLine (s : State) (v : Byte) : (s.setA v).cpu.irqLine = s.cpu.irqLine := rfl
@[simp] theorem State.setA_cpu_jammed (s : State) (v : Byte) : (s.setA v).cpu.jammed = s.cpu.jammed := rfl

/-! ### setX -/

@[simp] theorem State.setX_ppu (s : State) (v : Byte) : (s.setX v).ppu = s.ppu := rfl
@[simp] theorem State.setX_apu (s : State) (v : Byte) : (s.setX v).apu = s.apu := rfl
@[simp] theorem State.setX_dma (s : State) (v : Byte) : (s.setX v).dma = s.dma := rfl
@[simp] theorem State.setX_ctrl (s : State) (v : Byte) : (s.setX v).ctrl = s.ctrl := rfl
@[simp] theorem State.setX_ram (s : State) (v : Byte) : (s.setX v).ram = s.ram := rfl
@[simp] theorem State.setX_cart (s : State) (v : Byte) : (s.setX v).cart = s.cart := rfl
@[simp] theorem State.setX_tick (s : State) (v : Byte) : (s.setX v).tick = s.tick := rfl
@[simp] theorem State.setX_cpuCycles (s : State) (v : Byte) : (s.setX v).cpuCycles = s.cpuCycles := rfl
@[simp] theorem State.setX_params (s : State) (v : Byte) : (s.setX v).params = s.params := rfl
@[simp] theorem State.setX_cpu_a (s : State) (v : Byte) : (s.setX v).cpu.a = s.cpu.a := rfl
@[simp] theorem State.setX_cpu_x (s : State) (v : Byte) : (s.setX v).cpu.x = v := rfl
@[simp] theorem State.setX_cpu_y (s : State) (v : Byte) : (s.setX v).cpu.y = s.cpu.y := rfl
@[simp] theorem State.setX_cpu_sp (s : State) (v : Byte) : (s.setX v).cpu.sp = s.cpu.sp := rfl
@[simp] theorem State.setX_cpu_pc (s : State) (v : Byte) : (s.setX v).cpu.pc = s.cpu.pc := rfl
@[simp] theorem State.setX_cpu_p (s : State) (v : Byte) : (s.setX v).cpu.p = s.cpu.p := rfl
@[simp] theorem State.setX_cpu_budget (s : State) (v : Byte) : (s.setX v).cpu.budget = s.cpu.budget := rfl
@[simp] theorem State.setX_cpu_nmiPending (s : State) (v : Byte) : (s.setX v).cpu.nmiPending = s.cpu.nmiPending := rfl
@[simp] theorem State.setX_cpu_irqLine (s : State) (v : Byte) : (s.setX v).cpu.irqLine = s.cpu.irqLine := rfl
@[simp] theorem State.setX_cpu_jammed (s : State) (v : Byte) : (s.setX v).cpu.jammed = s.cpu.jammed := rfl

/-! ### setY -/

@[simp] theorem State.setY_ppu (s : State) (v : Byte) : (s.setY v).ppu = s.ppu := rfl
@[simp] theorem State.setY_apu (s : State) (v : Byte) : (s.setY v).apu = s.apu := rfl
@[simp] theorem State.setY_dma (s : State) (v : Byte) : (s.setY v).dma = s.dma := rfl
@[simp] theorem State.setY_ctrl (s : State) (v : Byte) : (s.setY v).ctrl = s.ctrl := rfl
@[simp] theorem State.setY_ram (s : State) (v : Byte) : (s.setY v).ram = s.ram := rfl
@[simp] theorem State.setY_cart (s : State) (v : Byte) : (s.setY v).cart = s.cart := rfl
@[simp] theorem State.setY_tick (s : State) (v : Byte) : (s.setY v).tick = s.tick := rfl
@[simp] theorem State.setY_cpuCycles (s : State) (v : Byte) : (s.setY v).cpuCycles = s.cpuCycles := rfl
@[simp] theorem State.setY_params (s : State) (v : Byte) : (s.setY v).params = s.params := rfl
@[simp] theorem State.setY_cpu_a (s : State) (v : Byte) : (s.setY v).cpu.a = s.cpu.a := rfl
@[simp] theorem State.setY_cpu_x (s : State) (v : Byte) : (s.setY v).cpu.x = s.cpu.x := rfl
@[simp] theorem State.setY_cpu_y (s : State) (v : Byte) : (s.setY v).cpu.y = v := rfl
@[simp] theorem State.setY_cpu_sp (s : State) (v : Byte) : (s.setY v).cpu.sp = s.cpu.sp := rfl
@[simp] theorem State.setY_cpu_pc (s : State) (v : Byte) : (s.setY v).cpu.pc = s.cpu.pc := rfl
@[simp] theorem State.setY_cpu_p (s : State) (v : Byte) : (s.setY v).cpu.p = s.cpu.p := rfl
@[simp] theorem State.setY_cpu_budget (s : State) (v : Byte) : (s.setY v).cpu.budget = s.cpu.budget := rfl
@[simp] theorem State.setY_cpu_nmiPending (s : State) (v : Byte) : (s.setY v).cpu.nmiPending = s.cpu.nmiPending := rfl
@[simp] theorem State.setY_cpu_irqLine (s : State) (v : Byte) : (s.setY v).cpu.irqLine = s.cpu.irqLine := rfl
@[simp] theorem State.setY_cpu_jammed (s : State) (v : Byte) : (s.setY v).cpu.jammed = s.cpu.jammed := rfl

/-! ### setSp -/

@[simp] theorem State.setSp_ppu (s : State) (v : Byte) : (s.setSp v).ppu = s.ppu := rfl
@[simp] theorem State.setSp_apu (s : State) (v : Byte) : (s.setSp v).apu = s.apu := rfl
@[simp] theorem State.setSp_dma (s : State) (v : Byte) : (s.setSp v).dma = s.dma := rfl
@[simp] theorem State.setSp_ctrl (s : State) (v : Byte) : (s.setSp v).ctrl = s.ctrl := rfl
@[simp] theorem State.setSp_ram (s : State) (v : Byte) : (s.setSp v).ram = s.ram := rfl
@[simp] theorem State.setSp_cart (s : State) (v : Byte) : (s.setSp v).cart = s.cart := rfl
@[simp] theorem State.setSp_tick (s : State) (v : Byte) : (s.setSp v).tick = s.tick := rfl
@[simp] theorem State.setSp_cpuCycles (s : State) (v : Byte) : (s.setSp v).cpuCycles = s.cpuCycles := rfl
@[simp] theorem State.setSp_params (s : State) (v : Byte) : (s.setSp v).params = s.params := rfl
@[simp] theorem State.setSp_cpu_a (s : State) (v : Byte) : (s.setSp v).cpu.a = s.cpu.a := rfl
@[simp] theorem State.setSp_cpu_x (s : State) (v : Byte) : (s.setSp v).cpu.x = s.cpu.x := rfl
@[simp] theorem State.setSp_cpu_y (s : State) (v : Byte) : (s.setSp v).cpu.y = s.cpu.y := rfl
@[simp] theorem State.setSp_cpu_sp (s : State) (v : Byte) : (s.setSp v).cpu.sp = v := rfl
@[simp] theorem State.setSp_cpu_pc (s : State) (v : Byte) : (s.setSp v).cpu.pc = s.cpu.pc := rfl
@[simp] theorem State.setSp_cpu_p (s : State) (v : Byte) : (s.setSp v).cpu.p = s.cpu.p := rfl
@[simp] theorem State.setSp_cpu_budget (s : State) (v : Byte) : (s.setSp v).cpu.budget = s.cpu.budget := rfl
@[simp] theorem State.setSp_cpu_nmiPending (s : State) (v : Byte) : (s.setSp v).cpu.nmiPending = s.cpu.nmiPending := rfl
@[simp] theorem State.setSp_cpu_irqLine (s : State) (v : Byte) : (s.setSp v).cpu.irqLine = s.cpu.irqLine := rfl
@[simp] theorem State.setSp_cpu_jammed (s : State) (v : Byte) : (s.setSp v).cpu.jammed = s.cpu.jammed := rfl

/-! ### setPc -/

@[simp] theorem State.setPc_ppu (s : State) (v : Word) : (s.setPc v).ppu = s.ppu := rfl
@[simp] theorem State.setPc_apu (s : State) (v : Word) : (s.setPc v).apu = s.apu := rfl
@[simp] theorem State.setPc_dma (s : State) (v : Word) : (s.setPc v).dma = s.dma := rfl
@[simp] theorem State.setPc_ctrl (s : State) (v : Word) : (s.setPc v).ctrl = s.ctrl := rfl
@[simp] theorem State.setPc_ram (s : State) (v : Word) : (s.setPc v).ram = s.ram := rfl
@[simp] theorem State.setPc_cart (s : State) (v : Word) : (s.setPc v).cart = s.cart := rfl
@[simp] theorem State.setPc_tick (s : State) (v : Word) : (s.setPc v).tick = s.tick := rfl
@[simp] theorem State.setPc_cpuCycles (s : State) (v : Word) : (s.setPc v).cpuCycles = s.cpuCycles := rfl
@[simp] theorem State.setPc_params (s : State) (v : Word) : (s.setPc v).params = s.params := rfl
@[simp] theorem State.setPc_cpu_a (s : State) (v : Word) : (s.setPc v).cpu.a = s.cpu.a := rfl
@[simp] theorem State.setPc_cpu_x (s : State) (v : Word) : (s.setPc v).cpu.x = s.cpu.x := rfl
@[simp] theorem State.setPc_cpu_y (s : State) (v : Word) : (s.setPc v).cpu.y = s.cpu.y := rfl
@[simp] theorem State.setPc_cpu_sp (s : State) (v : Word) : (s.setPc v).cpu.sp = s.cpu.sp := rfl
@[simp] theorem State.setPc_cpu_pc (s : State) (v : Word) : (s.setPc v).cpu.pc = v := rfl
@[simp] theorem State.setPc_cpu_p (s : State) (v : Word) : (s.setPc v).cpu.p = s.cpu.p := rfl
@[simp] theorem State.setPc_cpu_budget (s : State) (v : Word) : (s.setPc v).cpu.budget = s.cpu.budget := rfl
@[simp] theorem State.setPc_cpu_nmiPending (s : State) (v : Word) : (s.setPc v).cpu.nmiPending = s.cpu.nmiPending := rfl
@[simp] theorem State.setPc_cpu_irqLine (s : State) (v : Word) : (s.setPc v).cpu.irqLine = s.cpu.irqLine := rfl
@[simp] theorem State.setPc_cpu_jammed (s : State) (v : Word) : (s.setPc v).cpu.jammed = s.cpu.jammed := rfl

/-! ### setP -/

@[simp] theorem State.setP_ppu (s : State) (v : Byte) : (s.setP v).ppu = s.ppu := rfl
@[simp] theorem State.setP_apu (s : State) (v : Byte) : (s.setP v).apu = s.apu := rfl
@[simp] theorem State.setP_dma (s : State) (v : Byte) : (s.setP v).dma = s.dma := rfl
@[simp] theorem State.setP_ctrl (s : State) (v : Byte) : (s.setP v).ctrl = s.ctrl := rfl
@[simp] theorem State.setP_ram (s : State) (v : Byte) : (s.setP v).ram = s.ram := rfl
@[simp] theorem State.setP_cart (s : State) (v : Byte) : (s.setP v).cart = s.cart := rfl
@[simp] theorem State.setP_tick (s : State) (v : Byte) : (s.setP v).tick = s.tick := rfl
@[simp] theorem State.setP_cpuCycles (s : State) (v : Byte) : (s.setP v).cpuCycles = s.cpuCycles := rfl
@[simp] theorem State.setP_params (s : State) (v : Byte) : (s.setP v).params = s.params := rfl
@[simp] theorem State.setP_cpu_a (s : State) (v : Byte) : (s.setP v).cpu.a = s.cpu.a := rfl
@[simp] theorem State.setP_cpu_x (s : State) (v : Byte) : (s.setP v).cpu.x = s.cpu.x := rfl
@[simp] theorem State.setP_cpu_y (s : State) (v : Byte) : (s.setP v).cpu.y = s.cpu.y := rfl
@[simp] theorem State.setP_cpu_sp (s : State) (v : Byte) : (s.setP v).cpu.sp = s.cpu.sp := rfl
@[simp] theorem State.setP_cpu_pc (s : State) (v : Byte) : (s.setP v).cpu.pc = s.cpu.pc := rfl
@[simp] theorem State.setP_cpu_p (s : State) (v : Byte) : (s.setP v).cpu.p = v := rfl
@[simp] theorem State.setP_cpu_budget (s : State) (v : Byte) : (s.setP v).cpu.budget = s.cpu.budget := rfl
@[simp] theorem State.setP_cpu_nmiPending (s : State) (v : Byte) : (s.setP v).cpu.nmiPending = s.cpu.nmiPending := rfl
@[simp] theorem State.setP_cpu_irqLine (s : State) (v : Byte) : (s.setP v).cpu.irqLine = s.cpu.irqLine := rfl
@[simp] theorem State.setP_cpu_jammed (s : State) (v : Byte) : (s.setP v).cpu.jammed = s.cpu.jammed := rfl

/-! ### setBudget -/

@[simp] theorem State.setBudget_ppu (s : State) (v : Nat) : (s.setBudget v).ppu = s.ppu := rfl
@[simp] theorem State.setBudget_apu (s : State) (v : Nat) : (s.setBudget v).apu = s.apu := rfl
@[simp] theorem State.setBudget_dma (s : State) (v : Nat) : (s.setBudget v).dma = s.dma := rfl
@[simp] theorem State.setBudget_ctrl (s : State) (v : Nat) : (s.setBudget v).ctrl = s.ctrl := rfl
@[simp] theorem State.setBudget_ram (s : State) (v : Nat) : (s.setBudget v).ram = s.ram := rfl
@[simp] theorem State.setBudget_cart (s : State) (v : Nat) : (s.setBudget v).cart = s.cart := rfl
@[simp] theorem State.setBudget_tick (s : State) (v : Nat) : (s.setBudget v).tick = s.tick := rfl
@[simp] theorem State.setBudget_cpuCycles (s : State) (v : Nat) : (s.setBudget v).cpuCycles = s.cpuCycles := rfl
@[simp] theorem State.setBudget_params (s : State) (v : Nat) : (s.setBudget v).params = s.params := rfl
@[simp] theorem State.setBudget_cpu_a (s : State) (v : Nat) : (s.setBudget v).cpu.a = s.cpu.a := rfl
@[simp] theorem State.setBudget_cpu_x (s : State) (v : Nat) : (s.setBudget v).cpu.x = s.cpu.x := rfl
@[simp] theorem State.setBudget_cpu_y (s : State) (v : Nat) : (s.setBudget v).cpu.y = s.cpu.y := rfl
@[simp] theorem State.setBudget_cpu_sp (s : State) (v : Nat) : (s.setBudget v).cpu.sp = s.cpu.sp := rfl
@[simp] theorem State.setBudget_cpu_pc (s : State) (v : Nat) : (s.setBudget v).cpu.pc = s.cpu.pc := rfl
@[simp] theorem State.setBudget_cpu_p (s : State) (v : Nat) : (s.setBudget v).cpu.p = s.cpu.p := rfl
@[simp] theorem State.setBudget_cpu_budget (s : State) (v : Nat) : (s.setBudget v).cpu.budget = v := rfl
@[simp] theorem State.setBudget_cpu_nmiPending (s : State) (v : Nat) : (s.setBudget v).cpu.nmiPending = s.cpu.nmiPending := rfl
@[simp] theorem State.setBudget_cpu_irqLine (s : State) (v : Nat) : (s.setBudget v).cpu.irqLine = s.cpu.irqLine := rfl
@[simp] theorem State.setBudget_cpu_jammed (s : State) (v : Nat) : (s.setBudget v).cpu.jammed = s.cpu.jammed := rfl

/-! ### setNmiPending -/

@[simp] theorem State.setNmiPending_ppu (s : State) (v : Bool) : (s.setNmiPending v).ppu = s.ppu := rfl
@[simp] theorem State.setNmiPending_apu (s : State) (v : Bool) : (s.setNmiPending v).apu = s.apu := rfl
@[simp] theorem State.setNmiPending_dma (s : State) (v : Bool) : (s.setNmiPending v).dma = s.dma := rfl
@[simp] theorem State.setNmiPending_ctrl (s : State) (v : Bool) : (s.setNmiPending v).ctrl = s.ctrl := rfl
@[simp] theorem State.setNmiPending_ram (s : State) (v : Bool) : (s.setNmiPending v).ram = s.ram := rfl
@[simp] theorem State.setNmiPending_cart (s : State) (v : Bool) : (s.setNmiPending v).cart = s.cart := rfl
@[simp] theorem State.setNmiPending_tick (s : State) (v : Bool) : (s.setNmiPending v).tick = s.tick := rfl
@[simp] theorem State.setNmiPending_cpuCycles (s : State) (v : Bool) : (s.setNmiPending v).cpuCycles = s.cpuCycles := rfl
@[simp] theorem State.setNmiPending_params (s : State) (v : Bool) : (s.setNmiPending v).params = s.params := rfl
@[simp] theorem State.setNmiPending_cpu_a (s : State) (v : Bool) : (s.setNmiPending v).cpu.a = s.cpu.a := rfl
@[simp] theorem State.setNmiPending_cpu_x (s : State) (v : Bool) : (s.setNmiPending v).cpu.x = s.cpu.x := rfl
@[simp] theorem State.setNmiPending_cpu_y (s : State) (v : Bool) : (s.setNmiPending v).cpu.y = s.cpu.y := rfl
@[simp] theorem State.setNmiPending_cpu_sp (s : State) (v : Bool) : (s.setNmiPending v).cpu.sp = s.cpu.sp := rfl
@[simp] theorem State.setNmiPending_cpu_pc (s : State) (v : Bool) : (s.setNmiPending v).cpu.pc = s.cpu.pc := rfl
@[simp] theorem State.setNmiPending_cpu_p (s : State) (v : Bool) : (s.setNmiPending v).cpu.p = s.cpu.p := rfl
@[simp] theorem State.setNmiPending_cpu_budget (s : State) (v : Bool) : (s.setNmiPending v).cpu.budget = s.cpu.budget := rfl
@[simp] theorem State.setNmiPending_cpu_nmiPending (s : State) (v : Bool) : (s.setNmiPending v).cpu.nmiPending = v := rfl
@[simp] theorem State.setNmiPending_cpu_irqLine (s : State) (v : Bool) : (s.setNmiPending v).cpu.irqLine = s.cpu.irqLine := rfl
@[simp] theorem State.setNmiPending_cpu_jammed (s : State) (v : Bool) : (s.setNmiPending v).cpu.jammed = s.cpu.jammed := rfl

/-! ### setIrqLine -/

@[simp] theorem State.setIrqLine_ppu (s : State) (v : Bool) : (s.setIrqLine v).ppu = s.ppu := rfl
@[simp] theorem State.setIrqLine_apu (s : State) (v : Bool) : (s.setIrqLine v).apu = s.apu := rfl
@[simp] theorem State.setIrqLine_dma (s : State) (v : Bool) : (s.setIrqLine v).dma = s.dma := rfl
@[simp] theorem State.setIrqLine_ctrl (s : State) (v : Bool) : (s.setIrqLine v).ctrl = s.ctrl := rfl
@[simp] theorem State.setIrqLine_ram (s : State) (v : Bool) : (s.setIrqLine v).ram = s.ram := rfl
@[simp] theorem State.setIrqLine_cart (s : State) (v : Bool) : (s.setIrqLine v).cart = s.cart := rfl
@[simp] theorem State.setIrqLine_tick (s : State) (v : Bool) : (s.setIrqLine v).tick = s.tick := rfl
@[simp] theorem State.setIrqLine_cpuCycles (s : State) (v : Bool) : (s.setIrqLine v).cpuCycles = s.cpuCycles := rfl
@[simp] theorem State.setIrqLine_params (s : State) (v : Bool) : (s.setIrqLine v).params = s.params := rfl
@[simp] theorem State.setIrqLine_cpu_a (s : State) (v : Bool) : (s.setIrqLine v).cpu.a = s.cpu.a := rfl
@[simp] theorem State.setIrqLine_cpu_x (s : State) (v : Bool) : (s.setIrqLine v).cpu.x = s.cpu.x := rfl
@[simp] theorem State.setIrqLine_cpu_y (s : State) (v : Bool) : (s.setIrqLine v).cpu.y = s.cpu.y := rfl
@[simp] theorem State.setIrqLine_cpu_sp (s : State) (v : Bool) : (s.setIrqLine v).cpu.sp = s.cpu.sp := rfl
@[simp] theorem State.setIrqLine_cpu_pc (s : State) (v : Bool) : (s.setIrqLine v).cpu.pc = s.cpu.pc := rfl
@[simp] theorem State.setIrqLine_cpu_p (s : State) (v : Bool) : (s.setIrqLine v).cpu.p = s.cpu.p := rfl
@[simp] theorem State.setIrqLine_cpu_budget (s : State) (v : Bool) : (s.setIrqLine v).cpu.budget = s.cpu.budget := rfl
@[simp] theorem State.setIrqLine_cpu_nmiPending (s : State) (v : Bool) : (s.setIrqLine v).cpu.nmiPending = s.cpu.nmiPending := rfl
@[simp] theorem State.setIrqLine_cpu_irqLine (s : State) (v : Bool) : (s.setIrqLine v).cpu.irqLine = v := rfl
@[simp] theorem State.setIrqLine_cpu_jammed (s : State) (v : Bool) : (s.setIrqLine v).cpu.jammed = s.cpu.jammed := rfl

/-! ### setJammed -/

@[simp] theorem State.setJammed_ppu (s : State) (v : Bool) : (s.setJammed v).ppu = s.ppu := rfl
@[simp] theorem State.setJammed_apu (s : State) (v : Bool) : (s.setJammed v).apu = s.apu := rfl
@[simp] theorem State.setJammed_dma (s : State) (v : Bool) : (s.setJammed v).dma = s.dma := rfl
@[simp] theorem State.setJammed_ctrl (s : State) (v : Bool) : (s.setJammed v).ctrl = s.ctrl := rfl
@[simp] theorem State.setJammed_ram (s : State) (v : Bool) : (s.setJammed v).ram = s.ram := rfl
@[simp] theorem State.setJammed_cart (s : State) (v : Bool) : (s.setJammed v).cart = s.cart := rfl
@[simp] theorem State.setJammed_tick (s : State) (v : Bool) : (s.setJammed v).tick = s.tick := rfl
@[simp] theorem State.setJammed_cpuCycles (s : State) (v : Bool) : (s.setJammed v).cpuCycles = s.cpuCycles := rfl
@[simp] theorem State.setJammed_params (s : State) (v : Bool) : (s.setJammed v).params = s.params := rfl
@[simp] theorem State.setJammed_cpu_a (s : State) (v : Bool) : (s.setJammed v).cpu.a = s.cpu.a := rfl
@[simp] theorem State.setJammed_cpu_x (s : State) (v : Bool) : (s.setJammed v).cpu.x = s.cpu.x := rfl
@[simp] theorem State.setJammed_cpu_y (s : State) (v : Bool) : (s.setJammed v).cpu.y = s.cpu.y := rfl
@[simp] theorem State.setJammed_cpu_sp (s : State) (v : Bool) : (s.setJammed v).cpu.sp = s.cpu.sp := rfl
@[simp] theorem State.setJammed_cpu_pc (s : State) (v : Bool) : (s.setJammed v).cpu.pc = s.cpu.pc := rfl
@[simp] theorem State.setJammed_cpu_p (s : State) (v : Bool) : (s.setJammed v).cpu.p = s.cpu.p := rfl
@[simp] theorem State.setJammed_cpu_budget (s : State) (v : Bool) : (s.setJammed v).cpu.budget = s.cpu.budget := rfl
@[simp] theorem State.setJammed_cpu_nmiPending (s : State) (v : Bool) : (s.setJammed v).cpu.nmiPending = s.cpu.nmiPending := rfl
@[simp] theorem State.setJammed_cpu_irqLine (s : State) (v : Bool) : (s.setJammed v).cpu.irqLine = s.cpu.irqLine := rfl
@[simp] theorem State.setJammed_cpu_jammed (s : State) (v : Bool) : (s.setJammed v).cpu.jammed = v := rfl

/-! ### updateNZ -/

@[simp] theorem State.updateNZ_ppu (s : State) (v : Byte) : (s.updateNZ v).ppu = s.ppu := rfl
@[simp] theorem State.updateNZ_apu (s : State) (v : Byte) : (s.updateNZ v).apu = s.apu := rfl
@[simp] theorem State.updateNZ_dma (s : State) (v : Byte) : (s.updateNZ v).dma = s.dma := rfl
@[simp] theorem State.updateNZ_ctrl (s : State) (v : Byte) : (s.updateNZ v).ctrl = s.ctrl := rfl
@[simp] theorem State.updateNZ_ram (s : State) (v : Byte) : (s.updateNZ v).ram = s.ram := rfl
@[simp] theorem State.updateNZ_cart (s : State) (v : Byte) : (s.updateNZ v).cart = s.cart := rfl
@[simp] theorem State.updateNZ_tick (s : State) (v : Byte) : (s.updateNZ v).tick = s.tick := rfl
@[simp] theorem State.updateNZ_cpuCycles (s : State) (v : Byte) : (s.updateNZ v).cpuCycles = s.cpuCycles := rfl
@[simp] theorem State.updateNZ_params (s : State) (v : Byte) : (s.updateNZ v).params = s.params := rfl
@[simp] theorem State.updateNZ_cpu_a (s : State) (v : Byte) : (s.updateNZ v).cpu.a = s.cpu.a := rfl
@[simp] theorem State.updateNZ_cpu_x (s : State) (v : Byte) : (s.updateNZ v).cpu.x = s.cpu.x := rfl
@[simp] theorem State.updateNZ_cpu_y (s : State) (v : Byte) : (s.updateNZ v).cpu.y = s.cpu.y := rfl
@[simp] theorem State.updateNZ_cpu_sp (s : State) (v : Byte) : (s.updateNZ v).cpu.sp = s.cpu.sp := rfl
@[simp] theorem State.updateNZ_cpu_pc (s : State) (v : Byte) : (s.updateNZ v).cpu.pc = s.cpu.pc := rfl
@[simp] theorem State.updateNZ_cpu_p (s : State) (v : Byte) : (s.updateNZ v).cpu.p = setNZ s.cpu.p v := rfl
@[simp] theorem State.updateNZ_cpu_budget (s : State) (v : Byte) : (s.updateNZ v).cpu.budget = s.cpu.budget := rfl
@[simp] theorem State.updateNZ_cpu_nmiPending (s : State) (v : Byte) : (s.updateNZ v).cpu.nmiPending = s.cpu.nmiPending := rfl
@[simp] theorem State.updateNZ_cpu_irqLine (s : State) (v : Byte) : (s.updateNZ v).cpu.irqLine = s.cpu.irqLine := rfl
@[simp] theorem State.updateNZ_cpu_jammed (s : State) (v : Byte) : (s.updateNZ v).cpu.jammed = s.cpu.jammed := rfl

/-! ### setCpu -/

@[simp] theorem State.setCpu_cpu (s : State) (v : Cpu) : (s.setCpu v).cpu = v := rfl
@[simp] theorem State.setCpu_ppu (s : State) (v : Cpu) : (s.setCpu v).ppu = s.ppu := rfl
@[simp] theorem State.setCpu_apu (s : State) (v : Cpu) : (s.setCpu v).apu = s.apu := rfl
@[simp] theorem State.setCpu_dma (s : State) (v : Cpu) : (s.setCpu v).dma = s.dma := rfl
@[simp] theorem State.setCpu_ctrl (s : State) (v : Cpu) : (s.setCpu v).ctrl = s.ctrl := rfl
@[simp] theorem State.setCpu_ram (s : State) (v : Cpu) : (s.setCpu v).ram = s.ram := rfl
@[simp] theorem State.setCpu_cart (s : State) (v : Cpu) : (s.setCpu v).cart = s.cart := rfl
@[simp] theorem State.setCpu_tick (s : State) (v : Cpu) : (s.setCpu v).tick = s.tick := rfl
@[simp] theorem State.setCpu_cpuCycles (s : State) (v : Cpu) : (s.setCpu v).cpuCycles = s.cpuCycles := rfl
@[simp] theorem State.setCpu_params (s : State) (v : Cpu) : (s.setCpu v).params = s.params := rfl

/-! ### setPpuBus -/

@[simp] theorem State.setPpuBus_cpu (s : State) (v : PpuBus) : (s.setPpuBus v).cpu = s.cpu := rfl
@[simp] theorem State.setPpuBus_ppu (s : State) (v : PpuBus) : (s.setPpuBus v).ppu = v.ppu := rfl
@[simp] theorem State.setPpuBus_apu (s : State) (v : PpuBus) : (s.setPpuBus v).apu = s.apu := rfl
@[simp] theorem State.setPpuBus_dma (s : State) (v : PpuBus) : (s.setPpuBus v).dma = s.dma := rfl
@[simp] theorem State.setPpuBus_ctrl (s : State) (v : PpuBus) : (s.setPpuBus v).ctrl = s.ctrl := rfl
@[simp] theorem State.setPpuBus_ram (s : State) (v : PpuBus) : (s.setPpuBus v).ram = s.ram := rfl
@[simp] theorem State.setPpuBus_cart (s : State) (v : PpuBus) : (s.setPpuBus v).cart = v.cart := rfl
@[simp] theorem State.setPpuBus_tick (s : State) (v : PpuBus) : (s.setPpuBus v).tick = s.tick := rfl
@[simp] theorem State.setPpuBus_cpuCycles (s : State) (v : PpuBus) : (s.setPpuBus v).cpuCycles = s.cpuCycles := rfl
@[simp] theorem State.setPpuBus_params (s : State) (v : PpuBus) : (s.setPpuBus v).params = s.params := rfl

/-! ### setApu -/

@[simp] theorem State.setApu_cpu (s : State) (v : Apu) : (s.setApu v).cpu = s.cpu := rfl
@[simp] theorem State.setApu_ppu (s : State) (v : Apu) : (s.setApu v).ppu = s.ppu := rfl
@[simp] theorem State.setApu_apu (s : State) (v : Apu) : (s.setApu v).apu = v := rfl
@[simp] theorem State.setApu_dma (s : State) (v : Apu) : (s.setApu v).dma = s.dma := rfl
@[simp] theorem State.setApu_ctrl (s : State) (v : Apu) : (s.setApu v).ctrl = s.ctrl := rfl
@[simp] theorem State.setApu_ram (s : State) (v : Apu) : (s.setApu v).ram = s.ram := rfl
@[simp] theorem State.setApu_cart (s : State) (v : Apu) : (s.setApu v).cart = s.cart := rfl
@[simp] theorem State.setApu_tick (s : State) (v : Apu) : (s.setApu v).tick = s.tick := rfl
@[simp] theorem State.setApu_cpuCycles (s : State) (v : Apu) : (s.setApu v).cpuCycles = s.cpuCycles := rfl
@[simp] theorem State.setApu_params (s : State) (v : Apu) : (s.setApu v).params = s.params := rfl

/-! ### setDma -/

@[simp] theorem State.setDma_cpu (s : State) (v : Dma) : (s.setDma v).cpu = s.cpu := rfl
@[simp] theorem State.setDma_ppu (s : State) (v : Dma) : (s.setDma v).ppu = s.ppu := rfl
@[simp] theorem State.setDma_apu (s : State) (v : Dma) : (s.setDma v).apu = s.apu := rfl
@[simp] theorem State.setDma_dma (s : State) (v : Dma) : (s.setDma v).dma = v := rfl
@[simp] theorem State.setDma_ctrl (s : State) (v : Dma) : (s.setDma v).ctrl = s.ctrl := rfl
@[simp] theorem State.setDma_ram (s : State) (v : Dma) : (s.setDma v).ram = s.ram := rfl
@[simp] theorem State.setDma_cart (s : State) (v : Dma) : (s.setDma v).cart = s.cart := rfl
@[simp] theorem State.setDma_tick (s : State) (v : Dma) : (s.setDma v).tick = s.tick := rfl
@[simp] theorem State.setDma_cpuCycles (s : State) (v : Dma) : (s.setDma v).cpuCycles = s.cpuCycles := rfl
@[simp] theorem State.setDma_params (s : State) (v : Dma) : (s.setDma v).params = s.params := rfl

/-! ### setCtrl -/

@[simp] theorem State.setCtrl_cpu (s : State) (v : Controllers) : (s.setCtrl v).cpu = s.cpu := rfl
@[simp] theorem State.setCtrl_ppu (s : State) (v : Controllers) : (s.setCtrl v).ppu = s.ppu := rfl
@[simp] theorem State.setCtrl_apu (s : State) (v : Controllers) : (s.setCtrl v).apu = s.apu := rfl
@[simp] theorem State.setCtrl_dma (s : State) (v : Controllers) : (s.setCtrl v).dma = s.dma := rfl
@[simp] theorem State.setCtrl_ctrl (s : State) (v : Controllers) : (s.setCtrl v).ctrl = v := rfl
@[simp] theorem State.setCtrl_ram (s : State) (v : Controllers) : (s.setCtrl v).ram = s.ram := rfl
@[simp] theorem State.setCtrl_cart (s : State) (v : Controllers) : (s.setCtrl v).cart = s.cart := rfl
@[simp] theorem State.setCtrl_tick (s : State) (v : Controllers) : (s.setCtrl v).tick = s.tick := rfl
@[simp] theorem State.setCtrl_cpuCycles (s : State) (v : Controllers) : (s.setCtrl v).cpuCycles = s.cpuCycles := rfl
@[simp] theorem State.setCtrl_params (s : State) (v : Controllers) : (s.setCtrl v).params = s.params := rfl

/-! ### setRam -/

@[simp] theorem State.setRam_cpu (s : State) (v : List Host.Cell) : (s.setRam v).cpu = s.cpu := rfl
@[simp] theorem State.setRam_ppu (s : State) (v : List Host.Cell) : (s.setRam v).ppu = s.ppu := rfl
@[simp] theorem State.setRam_apu (s : State) (v : List Host.Cell) : (s.setRam v).apu = s.apu := rfl
@[simp] theorem State.setRam_dma (s : State) (v : List Host.Cell) : (s.setRam v).dma = s.dma := rfl
@[simp] theorem State.setRam_ctrl (s : State) (v : List Host.Cell) : (s.setRam v).ctrl = s.ctrl := rfl
@[simp] theorem State.setRam_ram (s : State) (v : List Host.Cell) : (s.setRam v).ram = v := rfl
@[simp] theorem State.setRam_cart (s : State) (v : List Host.Cell) : (s.setRam v).cart = s.cart := rfl
@[simp] theorem State.setRam_tick (s : State) (v : List Host.Cell) : (s.setRam v).tick = s.tick := rfl
@[simp] theorem State.setRam_cpuCycles (s : State) (v : List Host.Cell) : (s.setRam v).cpuCycles = s.cpuCycles := rfl
@[simp] theorem State.setRam_params (s : State) (v : List Host.Cell) : (s.setRam v).params = s.params := rfl

/-! ### setCart -/

@[simp] theorem State.setCart_cpu (s : State) (v : Cart) : (s.setCart v).cpu = s.cpu := rfl
@[simp] theorem State.setCart_ppu (s : State) (v : Cart) : (s.setCart v).ppu = s.ppu := rfl
@[simp] theorem State.setCart_apu (s : State) (v : Cart) : (s.setCart v).apu = s.apu := rfl
@[simp] theorem State.setCart_dma (s : State) (v : Cart) : (s.setCart v).dma = s.dma := rfl
@[simp] theorem State.setCart_ctrl (s : State) (v : Cart) : (s.setCart v).ctrl = s.ctrl := rfl
@[simp] theorem State.setCart_ram (s : State) (v : Cart) : (s.setCart v).ram = s.ram := rfl
@[simp] theorem State.setCart_cart (s : State) (v : Cart) : (s.setCart v).cart = v := rfl
@[simp] theorem State.setCart_tick (s : State) (v : Cart) : (s.setCart v).tick = s.tick := rfl
@[simp] theorem State.setCart_cpuCycles (s : State) (v : Cart) : (s.setCart v).cpuCycles = s.cpuCycles := rfl
@[simp] theorem State.setCart_params (s : State) (v : Cart) : (s.setCart v).params = s.params := rfl

/-! ### ppuBus -/

@[simp] theorem State.ppuBus_ppu (s : State) : s.ppuBus.ppu = s.ppu := rfl
@[simp] theorem State.ppuBus_cart (s : State) : s.ppuBus.cart = s.cart := rfl

/-! ### Operations on one byte: what they leave alone -/

@[simp] theorem loadA_ppu (s : State) (v : Byte) : (loadA s v).ppu = s.ppu := rfl
@[simp] theorem loadA_apu (s : State) (v : Byte) : (loadA s v).apu = s.apu := rfl
@[simp] theorem loadA_dma (s : State) (v : Byte) : (loadA s v).dma = s.dma := rfl
@[simp] theorem loadA_ctrl (s : State) (v : Byte) : (loadA s v).ctrl = s.ctrl := rfl
@[simp] theorem loadA_ram (s : State) (v : Byte) : (loadA s v).ram = s.ram := rfl
@[simp] theorem loadA_cart (s : State) (v : Byte) : (loadA s v).cart = s.cart := rfl
@[simp] theorem loadA_tick (s : State) (v : Byte) : (loadA s v).tick = s.tick := rfl
@[simp] theorem loadA_cpuCycles (s : State) (v : Byte) : (loadA s v).cpuCycles = s.cpuCycles := rfl
@[simp] theorem loadA_params (s : State) (v : Byte) : (loadA s v).params = s.params := rfl
@[simp] theorem loadX_ppu (s : State) (v : Byte) : (loadX s v).ppu = s.ppu := rfl
@[simp] theorem loadX_apu (s : State) (v : Byte) : (loadX s v).apu = s.apu := rfl
@[simp] theorem loadX_dma (s : State) (v : Byte) : (loadX s v).dma = s.dma := rfl
@[simp] theorem loadX_ctrl (s : State) (v : Byte) : (loadX s v).ctrl = s.ctrl := rfl
@[simp] theorem loadX_ram (s : State) (v : Byte) : (loadX s v).ram = s.ram := rfl
@[simp] theorem loadX_cart (s : State) (v : Byte) : (loadX s v).cart = s.cart := rfl
@[simp] theorem loadX_tick (s : State) (v : Byte) : (loadX s v).tick = s.tick := rfl
@[simp] theorem loadX_cpuCycles (s : State) (v : Byte) : (loadX s v).cpuCycles = s.cpuCycles := rfl
@[simp] theorem loadX_params (s : State) (v : Byte) : (loadX s v).params = s.params := rfl
@[simp] theorem loadY_ppu (s : State) (v : Byte) : (loadY s v).ppu = s.ppu := rfl
@[simp] theorem loadY_apu (s : State) (v : Byte) : (loadY s v).apu = s.apu := rfl
@[simp] theorem loadY_dma (s : State) (v : Byte) : (loadY s v).dma = s.dma := rfl
@[simp] theorem loadY_ctrl (s : State) (v : Byte) : (loadY s v).ctrl = s.ctrl := rfl
@[simp] theorem loadY_ram (s : State) (v : Byte) : (loadY s v).ram = s.ram := rfl
@[simp] theorem loadY_cart (s : State) (v : Byte) : (loadY s v).cart = s.cart := rfl
@[simp] theorem loadY_tick (s : State) (v : Byte) : (loadY s v).tick = s.tick := rfl
@[simp] theorem loadY_cpuCycles (s : State) (v : Byte) : (loadY s v).cpuCycles = s.cpuCycles := rfl
@[simp] theorem loadY_params (s : State) (v : Byte) : (loadY s v).params = s.params := rfl
@[simp] theorem adcA_ppu (s : State) (v : Byte) : (adcA s v).ppu = s.ppu := rfl
@[simp] theorem adcA_apu (s : State) (v : Byte) : (adcA s v).apu = s.apu := rfl
@[simp] theorem adcA_dma (s : State) (v : Byte) : (adcA s v).dma = s.dma := rfl
@[simp] theorem adcA_ctrl (s : State) (v : Byte) : (adcA s v).ctrl = s.ctrl := rfl
@[simp] theorem adcA_ram (s : State) (v : Byte) : (adcA s v).ram = s.ram := rfl
@[simp] theorem adcA_cart (s : State) (v : Byte) : (adcA s v).cart = s.cart := rfl
@[simp] theorem adcA_tick (s : State) (v : Byte) : (adcA s v).tick = s.tick := rfl
@[simp] theorem adcA_cpuCycles (s : State) (v : Byte) : (adcA s v).cpuCycles = s.cpuCycles := rfl
@[simp] theorem adcA_params (s : State) (v : Byte) : (adcA s v).params = s.params := rfl
@[simp] theorem sbcA_ppu (s : State) (v : Byte) : (sbcA s v).ppu = s.ppu := rfl
@[simp] theorem sbcA_apu (s : State) (v : Byte) : (sbcA s v).apu = s.apu := rfl
@[simp] theorem sbcA_dma (s : State) (v : Byte) : (sbcA s v).dma = s.dma := rfl
@[simp] theorem sbcA_ctrl (s : State) (v : Byte) : (sbcA s v).ctrl = s.ctrl := rfl
@[simp] theorem sbcA_ram (s : State) (v : Byte) : (sbcA s v).ram = s.ram := rfl
@[simp] theorem sbcA_cart (s : State) (v : Byte) : (sbcA s v).cart = s.cart := rfl
@[simp] theorem sbcA_tick (s : State) (v : Byte) : (sbcA s v).tick = s.tick := rfl
@[simp] theorem sbcA_cpuCycles (s : State) (v : Byte) : (sbcA s v).cpuCycles = s.cpuCycles := rfl
@[simp] theorem sbcA_params (s : State) (v : Byte) : (sbcA s v).params = s.params := rfl
@[simp] theorem andA_ppu (s : State) (v : Byte) : (andA s v).ppu = s.ppu := rfl
@[simp] theorem andA_apu (s : State) (v : Byte) : (andA s v).apu = s.apu := rfl
@[simp] theorem andA_dma (s : State) (v : Byte) : (andA s v).dma = s.dma := rfl
@[simp] theorem andA_ctrl (s : State) (v : Byte) : (andA s v).ctrl = s.ctrl := rfl
@[simp] theorem andA_ram (s : State) (v : Byte) : (andA s v).ram = s.ram := rfl
@[simp] theorem andA_cart (s : State) (v : Byte) : (andA s v).cart = s.cart := rfl
@[simp] theorem andA_tick (s : State) (v : Byte) : (andA s v).tick = s.tick := rfl
@[simp] theorem andA_cpuCycles (s : State) (v : Byte) : (andA s v).cpuCycles = s.cpuCycles := rfl
@[simp] theorem andA_params (s : State) (v : Byte) : (andA s v).params = s.params := rfl
@[simp] theorem oraA_ppu (s : State) (v : Byte) : (oraA s v).ppu = s.ppu := rfl
@[simp] theorem oraA_apu (s : State) (v : Byte) : (oraA s v).apu = s.apu := rfl
@[simp] theorem oraA_dma (s : State) (v : Byte) : (oraA s v).dma = s.dma := rfl
@[simp] theorem oraA_ctrl (s : State) (v : Byte) : (oraA s v).ctrl = s.ctrl := rfl
@[simp] theorem oraA_ram (s : State) (v : Byte) : (oraA s v).ram = s.ram := rfl
@[simp] theorem oraA_cart (s : State) (v : Byte) : (oraA s v).cart = s.cart := rfl
@[simp] theorem oraA_tick (s : State) (v : Byte) : (oraA s v).tick = s.tick := rfl
@[simp] theorem oraA_cpuCycles (s : State) (v : Byte) : (oraA s v).cpuCycles = s.cpuCycles := rfl
@[simp] theorem oraA_params (s : State) (v : Byte) : (oraA s v).params = s.params := rfl
@[simp] theorem eorA_ppu (s : State) (v : Byte) : (eorA s v).ppu = s.ppu := rfl
@[simp] theorem eorA_apu (s : State) (v : Byte) : (eorA s v).apu = s.apu := rfl
@[simp] theorem eorA_dma (s : State) (v : Byte) : (eorA s v).dma = s.dma := rfl
@[simp] theorem eorA_ctrl (s : State) (v : Byte) : (eorA s v).ctrl = s.ctrl := rfl
@[simp] theorem eorA_ram (s : State) (v : Byte) : (eorA s v).ram = s.ram := rfl
@[simp] theorem eorA_cart (s : State) (v : Byte) : (eorA s v).cart = s.cart := rfl
@[simp] theorem eorA_tick (s : State) (v : Byte) : (eorA s v).tick = s.tick := rfl
@[simp] theorem eorA_cpuCycles (s : State) (v : Byte) : (eorA s v).cpuCycles = s.cpuCycles := rfl
@[simp] theorem eorA_params (s : State) (v : Byte) : (eorA s v).params = s.params := rfl
@[simp] theorem compareA_ppu (s : State) (v : Byte) : (compareA s v).ppu = s.ppu := rfl
@[simp] theorem compareA_apu (s : State) (v : Byte) : (compareA s v).apu = s.apu := rfl
@[simp] theorem compareA_dma (s : State) (v : Byte) : (compareA s v).dma = s.dma := rfl
@[simp] theorem compareA_ctrl (s : State) (v : Byte) : (compareA s v).ctrl = s.ctrl := rfl
@[simp] theorem compareA_ram (s : State) (v : Byte) : (compareA s v).ram = s.ram := rfl
@[simp] theorem compareA_cart (s : State) (v : Byte) : (compareA s v).cart = s.cart := rfl
@[simp] theorem compareA_tick (s : State) (v : Byte) : (compareA s v).tick = s.tick := rfl
@[simp] theorem compareA_cpuCycles (s : State) (v : Byte) : (compareA s v).cpuCycles = s.cpuCycles := rfl
@[simp] theorem compareA_params (s : State) (v : Byte) : (compareA s v).params = s.params := rfl
@[simp] theorem compareX_ppu (s : State) (v : Byte) : (compareX s v).ppu = s.ppu := rfl
@[simp] theorem compareX_apu (s : State) (v : Byte) : (compareX s v).apu = s.apu := rfl
@[simp] theorem compareX_dma (s : State) (v : Byte) : (compareX s v).dma = s.dma := rfl
@[simp] theorem compareX_ctrl (s : State) (v : Byte) : (compareX s v).ctrl = s.ctrl := rfl
@[simp] theorem compareX_ram (s : State) (v : Byte) : (compareX s v).ram = s.ram := rfl
@[simp] theorem compareX_cart (s : State) (v : Byte) : (compareX s v).cart = s.cart := rfl
@[simp] theorem compareX_tick (s : State) (v : Byte) : (compareX s v).tick = s.tick := rfl
@[simp] theorem compareX_cpuCycles (s : State) (v : Byte) : (compareX s v).cpuCycles = s.cpuCycles := rfl
@[simp] theorem compareX_params (s : State) (v : Byte) : (compareX s v).params = s.params := rfl
@[simp] theorem compareY_ppu (s : State) (v : Byte) : (compareY s v).ppu = s.ppu := rfl
@[simp] theorem compareY_apu (s : State) (v : Byte) : (compareY s v).apu = s.apu := rfl
@[simp] theorem compareY_dma (s : State) (v : Byte) : (compareY s v).dma = s.dma := rfl
@[simp] theorem compareY_ctrl (s : State) (v : Byte) : (compareY s v).ctrl = s.ctrl := rfl
@[simp] theorem compareY_ram (s : State) (v : Byte) : (compareY s v).ram = s.ram := rfl
@[simp] theorem compareY_cart (s : State) (v : Byte) : (compareY s v).cart = s.cart := rfl
@[simp] theorem compareY_tick (s : State) (v : Byte) : (compareY s v).tick = s.tick := rfl
@[simp] theorem compareY_cpuCycles (s : State) (v : Byte) : (compareY s v).cpuCycles = s.cpuCycles := rfl
@[simp] theorem compareY_params (s : State) (v : Byte) : (compareY s v).params = s.params := rfl
@[simp] theorem testBits_ppu (s : State) (v : Byte) : (testBits s v).ppu = s.ppu := rfl
@[simp] theorem testBits_apu (s : State) (v : Byte) : (testBits s v).apu = s.apu := rfl
@[simp] theorem testBits_dma (s : State) (v : Byte) : (testBits s v).dma = s.dma := rfl
@[simp] theorem testBits_ctrl (s : State) (v : Byte) : (testBits s v).ctrl = s.ctrl := rfl
@[simp] theorem testBits_ram (s : State) (v : Byte) : (testBits s v).ram = s.ram := rfl
@[simp] theorem testBits_cart (s : State) (v : Byte) : (testBits s v).cart = s.cart := rfl
@[simp] theorem testBits_tick (s : State) (v : Byte) : (testBits s v).tick = s.tick := rfl
@[simp] theorem testBits_cpuCycles (s : State) (v : Byte) : (testBits s v).cpuCycles = s.cpuCycles := rfl
@[simp] theorem testBits_params (s : State) (v : Byte) : (testBits s v).params = s.params := rfl
@[simp] theorem loadAX_ppu (s : State) (v : Byte) : (loadAX s v).ppu = s.ppu := rfl
@[simp] theorem loadAX_apu (s : State) (v : Byte) : (loadAX s v).apu = s.apu := rfl
@[simp] theorem loadAX_dma (s : State) (v : Byte) : (loadAX s v).dma = s.dma := rfl
@[simp] theorem loadAX_ctrl (s : State) (v : Byte) : (loadAX s v).ctrl = s.ctrl := rfl
@[simp] theorem loadAX_ram (s : State) (v : Byte) : (loadAX s v).ram = s.ram := rfl
@[simp] theorem loadAX_cart (s : State) (v : Byte) : (loadAX s v).cart = s.cart := rfl
@[simp] theorem loadAX_tick (s : State) (v : Byte) : (loadAX s v).tick = s.tick := rfl
@[simp] theorem loadAX_cpuCycles (s : State) (v : Byte) : (loadAX s v).cpuCycles = s.cpuCycles := rfl
@[simp] theorem loadAX_params (s : State) (v : Byte) : (loadAX s v).params = s.params := rfl
@[simp] theorem loadAXSp_ppu (s : State) (v : Byte) : (loadAXSp s v).ppu = s.ppu := rfl
@[simp] theorem loadAXSp_apu (s : State) (v : Byte) : (loadAXSp s v).apu = s.apu := rfl
@[simp] theorem loadAXSp_dma (s : State) (v : Byte) : (loadAXSp s v).dma = s.dma := rfl
@[simp] theorem loadAXSp_ctrl (s : State) (v : Byte) : (loadAXSp s v).ctrl = s.ctrl := rfl
@[simp] theorem loadAXSp_ram (s : State) (v : Byte) : (loadAXSp s v).ram = s.ram := rfl
@[simp] theorem loadAXSp_cart (s : State) (v : Byte) : (loadAXSp s v).cart = s.cart := rfl
@[simp] theorem loadAXSp_tick (s : State) (v : Byte) : (loadAXSp s v).tick = s.tick := rfl
@[simp] theorem loadAXSp_cpuCycles (s : State) (v : Byte) : (loadAXSp s v).cpuCycles = s.cpuCycles := rfl
@[simp] theorem loadAXSp_params (s : State) (v : Byte) : (loadAXSp s v).params = s.params := rfl
@[simp] theorem ignoreByte_ppu (s : State) (v : Byte) : (ignoreByte s v).ppu = s.ppu := rfl
@[simp] theorem ignoreByte_apu (s : State) (v : Byte) : (ignoreByte s v).apu = s.apu := rfl
@[simp] theorem ignoreByte_dma (s : State) (v : Byte) : (ignoreByte s v).dma = s.dma := rfl
@[simp] theorem ignoreByte_ctrl (s : State) (v : Byte) : (ignoreByte s v).ctrl = s.ctrl := rfl
@[simp] theorem ignoreByte_ram (s : State) (v : Byte) : (ignoreByte s v).ram = s.ram := rfl
@[simp] theorem ignoreByte_cart (s : State) (v : Byte) : (ignoreByte s v).cart = s.cart := rfl
@[simp] theorem ignoreByte_tick (s : State) (v : Byte) : (ignoreByte s v).tick = s.tick := rfl
@[simp] theorem ignoreByte_cpuCycles (s : State) (v : Byte) : (ignoreByte s v).cpuCycles = s.cpuCycles := rfl
@[simp] theorem ignoreByte_params (s : State) (v : Byte) : (ignoreByte s v).params = s.params := rfl
@[simp] theorem flagsOfByte_ppu (s : State) (v : Byte) : (flagsOfByte s v).ppu = s.ppu := rfl
@[simp] theorem flagsOfByte_apu (s : State) (v : Byte) : (flagsOfByte s v).apu = s.apu := rfl
@[simp] theorem flagsOfByte_dma (s : State) (v : Byte) : (flagsOfByte s v).dma = s.dma := rfl
@[simp] theorem flagsOfByte_ctrl (s : State) (v : Byte) : (flagsOfByte s v).ctrl = s.ctrl := rfl
@[simp] theorem flagsOfByte_ram (s : State) (v : Byte) : (flagsOfByte s v).ram = s.ram := rfl
@[simp] theorem flagsOfByte_cart (s : State) (v : Byte) : (flagsOfByte s v).cart = s.cart := rfl
@[simp] theorem flagsOfByte_tick (s : State) (v : Byte) : (flagsOfByte s v).tick = s.tick := rfl
@[simp] theorem flagsOfByte_cpuCycles (s : State) (v : Byte) : (flagsOfByte s v).cpuCycles = s.cpuCycles := rfl
@[simp] theorem flagsOfByte_params (s : State) (v : Byte) : (flagsOfByte s v).params = s.params := rfl

end Sys2Proof.Machine
end

