-- ==== Sys2Proof/Laws/Bus.lean ====
section
/-! SUPPORT. What the bus operations can do: a PPU bus read changes the cartridge alone, a CPU read never changes the
CPU or a memory of the core, a CPU write never changes the CPU, and what each reaches in the regions of R45. -/

namespace Sys2Proof.Machine

/-! ### The PPU bus -/

/-- A PPU bus read changes at most the cartridge (R175). -/
@[simp] theorem ppuRead_ppu (b : PpuBus) (a : BitVec 14) : (ppuRead b a).2.ppu = b.ppu := rfl

/-- The side effect of a $2007 read on the PPU: the buffer and `v` (R190). -/
theorem dataRefilled_ppu (b : PpuBus) :
    (dataRefilled b).ppu =
      { b.ppu with readBuffer := (ppuRead b (refillAddress b.ppu)).1, v := b.ppu.v + vramIncrement b.ppu } := rfl

/-- A register read never changes a memory of the PPU (R179). -/
theorem ppuRegRead_memories (b : PpuBus) (r : BitVec 3) :
    (ppuRegRead b r).2.ppu.oam = b.ppu.oam ∧ (ppuRegRead b r).2.ppu.nt = b.ppu.nt ∧
    (ppuRegRead b r).2.ppu.pal = b.ppu.pal ∧ (ppuRegRead b r).2.ppu.frame = b.ppu.frame := by
  unfold ppuRegRead
  dsimp only
  split <;> exact ⟨rfl, rfl, rfl, rfl⟩

/-- What a register read can do to the PPU: nothing, the clears of $2002, or the refill of $2007 (R179). -/
theorem ppuRegRead_cases (b : PpuBus) (r : BitVec 3) :
    (r = 2 ∧ (ppuRegRead b r).2 = { b with ppu := statusCleared b.ppu }) ∨
    (r = 7 ∧ (ppuRegRead b r).2 = dataRefilled b) ∨ (ppuRegRead b r).2 = b := by
  unfold ppuRegRead
  dsimp only
  split
  · rename_i h; exact .inl ⟨BitVec.eq_of_toNat_eq h, rfl⟩
  · rename_i h; exact .inr (.inl ⟨BitVec.eq_of_toNat_eq h, rfl⟩)
  · exact .inr (.inr rfl)

/-! ### CPU reads -/

/-- What a read the cartridge does not claim can do: nothing, a PPU register's side effect, the $4015 clear, or a
controller shift (R45, R56). -/
theorem ownReadEffect_cases (s : State) (a : Word) :
    ownReadEffect s a = s ∨ (∃ r, ownReadEffect s a = s.setPpuBus (ppuRegRead s.ppuBus r).2) ∨
    ownReadEffect s a = s.setApu (clearFrameIrq s.apu) ∨ ownReadEffect s a = s.setCtrl (shiftPort0 s.ctrl) ∨
    ownReadEffect s a = s.setCtrl (shiftPort1 s.ctrl) := by
  unfold ownReadEffect
  split
  · exact .inl rfl
  · exact .inr (.inl ⟨_, rfl⟩)
  · exact .inl rfl
  · exact .inl rfl
  · exact .inr (.inr (.inl rfl))
  · exact .inr (.inr (.inr (.inl rfl)))
  · exact .inr (.inr (.inr (.inr rfl)))
  · exact .inl rfl

/-- What a CPU read can do (R46): the cartridge claims it and only the cartridge can change, or the core answers. -/
theorem memRead_cases (s : State) (a : Word) :
    (∃ v c, memRead s a = (v, s.setCart c)) ∨
    (∃ c, memRead s a = (ownValue (s.setCart c) a, ownReadEffect (s.setCart c) a)) := by
  unfold memRead
  dsimp only
  split
  · exact .inl ⟨_, _, rfl⟩
  · exact .inr ⟨_, rfl⟩

/-- A property of machines that the read side effects keep is kept by every CPU read. -/
theorem memRead_keeps (I : State → Prop) (hcart : ∀ s c, I s → I (s.setCart c))
    (hppu : ∀ s r, I s → I (s.setPpuBus (ppuRegRead s.ppuBus r).2))
    (hapu : ∀ s, I s → I (s.setApu (clearFrameIrq s.apu)))
    (hport0 : ∀ s, I s → I (s.setCtrl (shiftPort0 s.ctrl)))
    (hport1 : ∀ s, I s → I (s.setCtrl (shiftPort1 s.ctrl)))
    (s : State) (a : Word) (h : I s) : I (memRead s a).2 := by
  rcases memRead_cases s a with ⟨v, c, e⟩ | ⟨c, e⟩
  · rw [e]; exact hcart s c h
  · rw [e]
    have h' := hcart s c h
    rcases ownReadEffect_cases (s.setCart c) a with e | ⟨r, e⟩ | e | e | e <;> simp only [e]
    · exact h'
    · exact hppu _ r h'
    · exact hapu _ h'
    · exact hport0 _ h'
    · exact hport1 _ h'

/-- The parts of the machine no CPU read changes. -/
theorem memRead_frame (s : State) (a : Word) :
    (memRead s a).2.cpu = s.cpu ∧ (memRead s a).2.ram = s.ram ∧ (memRead s a).2.dma = s.dma ∧
    (memRead s a).2.tick = s.tick ∧ (memRead s a).2.cpuCycles = s.cpuCycles ∧ (memRead s a).2.params = s.params ∧
    (memRead s a).2.ppu.oam = s.ppu.oam ∧ (memRead s a).2.ppu.nt = s.ppu.nt ∧
    (memRead s a).2.ppu.pal = s.ppu.pal ∧ (memRead s a).2.ppu.frame = s.ppu.frame := by
  refine memRead_keeps
    (fun t => t.cpu = s.cpu ∧ t.ram = s.ram ∧ t.dma = s.dma ∧ t.tick = s.tick ∧ t.cpuCycles = s.cpuCycles ∧
      t.params = s.params ∧ t.ppu.oam = s.ppu.oam ∧ t.ppu.nt = s.ppu.nt ∧ t.ppu.pal = s.ppu.pal ∧
      t.ppu.frame = s.ppu.frame)
    (fun _ _ h => h) (fun t r h => ?_) (fun _ h => h) (fun _ h => h) (fun _ h => h) s a
    ⟨rfl, rfl, rfl, rfl, rfl, rfl, rfl, rfl, rfl, rfl⟩
  have m := ppuRegRead_memories t.ppuBus r
  simp only [State.ppuBus_ppu] at m
  simpa [m.1, m.2.1, m.2.2.1, m.2.2.2] using h

@[simp] theorem memRead_cpu (s : State) (a : Word) : (memRead s a).2.cpu = s.cpu := (memRead_frame s a).1
@[simp] theorem memRead_ram (s : State) (a : Word) : (memRead s a).2.ram = s.ram := (memRead_frame s a).2.1
@[simp] theorem memRead_dma (s : State) (a : Word) : (memRead s a).2.dma = s.dma := (memRead_frame s a).2.2.1
@[simp] theorem memRead_tick (s : State) (a : Word) : (memRead s a).2.tick = s.tick := (memRead_frame s a).2.2.2.1
@[simp] theorem memRead_cpuCycles (s : State) (a : Word) : (memRead s a).2.cpuCycles = s.cpuCycles :=
  (memRead_frame s a).2.2.2.2.1
@[simp] theorem memRead_params (s : State) (a : Word) : (memRead s a).2.params = s.params :=
  (memRead_frame s a).2.2.2.2.2.1

/-- A read returns the byte the peek shows (R46, R47). -/
theorem memRead_value (s : State) (a : Word) : (memRead s a).1 = peek s a := by
  unfold memRead peek
  dsimp only
  split <;> rfl

/-- The decoder on internal RAM (R45). -/
theorem regionOf_ram {a : Word} (h : a.toNat < 0x2000) : regionOf a = .ram (a.toNat % 0x800) := by
  simp only [regionOf, h, if_true]

/-- The decoder past the registers (R45). -/
theorem regionOf_unmapped {a : Word} (h : 0x4018 ≤ a.toNat) : regionOf a = .unmapped := by
  have h1 : ¬ a.toNat < 0x2000 := by omega
  have h2 : ¬ a.toNat < 0x4000 := by omega
  have h3 : ¬ a.toNat < 0x4014 := by omega
  have h4 : ¬ a.toNat = 0x4014 := by omega
  have h5 : ¬ a.toNat = 0x4015 := by omega
  have h6 : ¬ a.toNat = 0x4016 := by omega
  have h7 : ¬ a.toNat = 0x4017 := by omega
  simp only [regionOf, h1, h2, h3, h4, h5, h6, h7, if_false]

/-- An unclaimed read of internal RAM: the byte, and no side effect but the cartridge's (R45). -/
theorem memRead_ram_address (s : State) {a : Word} (hc : (cartCpuRead s.cart a).1 = none) (h : a.toNat < 0x2000) :
    memRead s a = (Memory.load s.ram (a.toNat % 0x800), s.setCart (cartCpuRead s.cart a).2) := by
  simp only [memRead, hc, ownValue, ownReadEffect, regionOf_ram h, State.setCart_ram]

/-! ### CPU writes -/

/-- What a CPU write can do (R48): only the cartridge can change, or the core takes it. -/
theorem memWrite_cases (s : State) (a : Word) (v : Byte) :
    ∃ c, memWrite s a v = s.setCart c ∨ memWrite s a v = ownWrite (s.setCart c) a v := by
  unfold memWrite
  dsimp only
  split
  · exact ⟨_, .inl rfl⟩
  · exact ⟨_, .inr rfl⟩

/-- A property of machines that the write effects keep is kept by every CPU write. -/
theorem memWrite_keeps (I : State → Prop) (hcart : ∀ s c, I s → I (s.setCart c))
    (hram : ∀ s i v, i < 0x800 → I s → I (s.setRam (Memory.store s.ram i v)))
    (hppu : ∀ s r v, I s → I (s.setPpuBus (ppuRegWrite s.ppuBus r v)))
    (hapu : ∀ s r v, I s → I (s.setApu (apuRegWrite s.apu r v)))
    (hdma : ∀ s v, I s → I (s.setDma (startDma s.dma s.cpuCycles v)))
    (hctrl : ∀ s v, I s → I (s.setCtrl (writeStrobe s.ctrl v)))
    (s : State) (a : Word) (v : Byte) (h : I s) : I (memWrite s a v) := by
  obtain ⟨c, e | e⟩ := memWrite_cases s a v
  · rw [e]; exact hcart s c h
  · rw [e]
    have h' := hcart s c h
    unfold ownWrite
    split
    · rename_i i hi
      refine hram _ i v ?_ h'
      unfold regionOf at hi
      dsimp only at hi
      split at hi
      · injection hi with hi; omega
      · split at hi
        · injection hi
        · repeat' split at hi
          all_goals injection hi
    · exact hppu _ _ v h'
    · exact hapu _ _ v h'
    · exact hdma _ v h'
    · exact hapu _ _ v h'
    · exact hctrl _ v h'
    · exact hapu _ _ v h'
    · exact h'

/-- The parts of the machine no CPU write changes. -/
theorem memWrite_frame (s : State) (a : Word) (v : Byte) :
    (memWrite s a v).cpu = s.cpu ∧ (memWrite s a v).tick = s.tick ∧ (memWrite s a v).cpuCycles = s.cpuCycles ∧
    (memWrite s a v).params = s.params := by
  refine memWrite_keeps
    (fun t => t.cpu = s.cpu ∧ t.tick = s.tick ∧ t.cpuCycles = s.cpuCycles ∧ t.params = s.params)
    (fun _ _ h => h) (fun _ _ _ _ h => h) (fun _ _ _ h => h) (fun _ _ _ h => h) (fun _ _ h => h) (fun _ _ h => h)
    s a v ⟨rfl, rfl, rfl, rfl⟩

@[simp] theorem memWrite_cpu (s : State) (a : Word) (v : Byte) : (memWrite s a v).cpu = s.cpu :=
  (memWrite_frame s a v).1
@[simp] theorem memWrite_tick (s : State) (a : Word) (v : Byte) : (memWrite s a v).tick = s.tick :=
  (memWrite_frame s a v).2.1
@[simp] theorem memWrite_cpuCycles (s : State) (a : Word) (v : Byte) : (memWrite s a v).cpuCycles = s.cpuCycles :=
  (memWrite_frame s a v).2.2.1
@[simp] theorem memWrite_params (s : State) (a : Word) (v : Byte) : (memWrite s a v).params = s.params :=
  (memWrite_frame s a v).2.2.2

/-- Internal RAM after a CPU write: the byte stored where the address is RAM's and the cartridge does not claim it,
nothing otherwise (R45, R48). -/
theorem memWrite_ram (s : State) (a : Word) (v : Byte) :
    (memWrite s a v).ram =
      if (cartCpuWrite s.cart a v).1 = false ∧ a.toNat < 0x2000 then Memory.store s.ram (a.toNat % 0x800) v
      else s.ram := by
  unfold memWrite
  dsimp only
  cases hc : (cartCpuWrite s.cart a v).1
  · by_cases h : a.toNat < 0x2000
    · simp only [ownWrite, regionOf_ram h, h, and_self, if_true, Bool.false_eq_true, if_false, State.setRam_ram,
        State.setCart_ram]
    · simp only [h, and_false, if_false, Bool.false_eq_true]
      unfold ownWrite
      split <;> try rfl
      rename_i i hi
      unfold regionOf at hi
      dsimp only at hi
      simp only [h, if_false] at hi
      repeat' split at hi
      all_goals injection hi
  · simp only [if_true, Bool.true_eq_false, false_and, if_false, State.setCart_ram]

end Sys2Proof.Machine
end

