-- ==== Sys2Proof/Laws/Flags.lean ====
section
/-! SUPPORT. The laws of the status byte: reading a flag after writing one, SetNZ and the flag computations flag by
flag, and the adder as arithmetic on numbers. -/

namespace Sys2Proof.Machine

/-- A flag's place is inside the byte. -/
theorem flagBit_lt (f : Flag) : flagBit f < 8 := by cases f <;> decide

/-- The mask of a flag has that flag's bit and no other flag's. -/
theorem flagMask_bit (f g : Flag) : (flagMask f).getLsbD (flagBit g) = decide (g = f) := by
  cases f <;> cases g <;> decide

/-- Reading the flag just written gives the value written. -/
@[simp] theorem getFlag_setFlag_same (p : Byte) (f : Flag) (v : Bool) : getFlag (setFlag p f v) f = v := by
  cases v <;> simp [getFlag, setFlag, flagMask_bit, flagBit_lt]

/-- Writing a flag leaves every other flag alone. -/
theorem getFlag_setFlag_other (p : Byte) {f g : Flag} (v : Bool) (h : g ≠ f) :
    getFlag (setFlag p f v) g = getFlag p g := by
  cases v <;> simp only [getFlag, setFlag, Bool.false_eq_true, if_false, if_true, BitVec.getLsbD_or, BitVec.getLsbD_and,
    BitVec.getLsbD_not, flagMask_bit, flagBit_lt, h, decide_false, decide_true, Bool.or_false, Bool.not_false,
    Bool.and_true]

/-- Every flag after a write of one. -/
theorem getFlag_setFlag (p : Byte) (f g : Flag) (v : Bool) :
    getFlag (setFlag p f v) g = if g = f then v else getFlag p g := by
  by_cases h : g = f
  · simp [h]
  · simp [h, getFlag_setFlag_other p v h]

/-- Two status bytes with the same eight flags are equal. -/
theorem eq_of_getFlag (p q : Byte) (h : ∀ f, getFlag p f = getFlag q f) : p = q := by
  have h' := fun f => h f
  simp only [getFlag] at h'
  apply BitVec.eq_of_getLsbD_eq
  intro i hi
  have h0 := h' .c; have h1 := h' .z; have h2 := h' .i; have h3 := h' .d
  have h4 := h' .b; have h5 := h' .u; have h6 := h' .v; have h7 := h' .n
  simp only [flagBit] at h0 h1 h2 h3 h4 h5 h6 h7
  interval_cases i <;> assumption

/-- Every flag after SetNZ (R14). -/
theorem getFlag_setNZ (p v : Byte) (g : Flag) :
    getFlag (setNZ p v) g = if g = .z then v == 0 else if g = .n then v.getLsbD 7 else getFlag p g := by
  simp only [setNZ, getFlag_setFlag]

/-- Every flag after the adder (R102). -/
theorem getFlag_addFlags (p a m : Byte) (g : Flag) :
    getFlag (addFlags p a m) g =
      if g = .z then addResult a m (getFlag p .c) == 0
      else if g = .n then (addResult a m (getFlag p .c)).getLsbD 7
      else if g = .v then addOverflow a m (getFlag p .c)
      else if g = .c then addCarry a m (getFlag p .c)
      else getFlag p g := by
  simp only [addFlags, getFlag_setNZ, getFlag_setFlag]

/-- Every flag after the comparator (R104). -/
theorem getFlag_compareFlags (p r m : Byte) (g : Flag) :
    getFlag (compareFlags p r m) g =
      if g = .n then (r - m).getLsbD 7
      else if g = .z then r == m
      else if g = .c then decide (m.toNat ≤ r.toNat)
      else getFlag p g := by
  simp only [compareFlags, getFlag_setFlag]

/-- Every flag after BIT (R113). -/
theorem getFlag_bitFlags (p a m : Byte) (g : Flag) :
    getFlag (bitFlags p a m) g =
      if g = .v then m.getLsbD 6
      else if g = .n then m.getLsbD 7
      else if g = .z then a &&& m == 0
      else getFlag p g := by
  simp only [bitFlags, getFlag_setFlag]

/-- Every flag after ARR (R161). -/
theorem getFlag_arrFlags (p a m : Byte) (g : Flag) :
    getFlag (arrFlags p a m) g =
      if g = .v then (arrResult p a m).getLsbD 6 ^^ (arrResult p a m).getLsbD 5
      else if g = .c then (arrResult p a m).getLsbD 6
      else if g = .z then arrResult p a m == 0
      else if g = .n then (arrResult p a m).getLsbD 7
      else getFlag p g := by
  simp only [arrFlags, getFlag_setNZ, getFlag_setFlag]

/-- A bit as a byte, as a number. -/
theorem bitByte_toNat (b : Bool) : (bitByte b).toNat = b.toNat := by cases b <;> rfl

/-- The adder's sum as a number: nothing is lost in nine bits (R102). -/
theorem addSum_toNat (a m : Byte) (c : Bool) : (addSum a m c).toNat = a.toNat + m.toNat + c.toNat := by
  have ha := a.isLt
  have hm := m.isLt
  cases c <;> simp [addSum, bitByte] <;> omega

/-- The adder's result as a number (R102). -/
theorem addResult_toNat (a m : Byte) (c : Bool) :
    (addResult a m c).toNat = (a.toNat + m.toNat + c.toNat) % 256 := by
  simp [addResult, addSum_toNat]

/-- The adder's carry as a number (R102). -/
theorem addCarry_eq (a m : Byte) (c : Bool) : addCarry a m c = decide (256 ≤ a.toNat + m.toNat + c.toNat) := by
  have h := addSum_toNat a m c
  have ha := a.isLt
  have hm := m.isLt
  have hc : c.toNat ≤ 1 := by cases c <;> simp
  rw [addCarry, BitVec.getLsbD, h, Nat.testBit_eq_decide_div_mod_eq]
  by_cases h256 : 256 ≤ a.toNat + m.toNat + c.toNat
  · simp only [h256, decide_true, decide_eq_true_eq]; omega
  · simp only [h256, decide_false, decide_eq_false_iff_not]; omega

/-- What PLP and RTI store has U = 1 and B = 0, its other flags pulled (R23). -/
theorem getFlag_pulledStatus (v : Byte) (g : Flag) :
    getFlag (pulledStatus v) g = if g = .u then true else if g = .b then false else getFlag v g := by
  cases g <;> simp [pulledStatus, getFlag, flagBit]

/-- What PHP and BRK push has U = 1 and B = 1 (R23). -/
theorem getFlag_pushedByProgram (v : Byte) (g : Flag) :
    getFlag (pushedByProgram v) g = if g = .u then true else if g = .b then true else getFlag v g := by
  cases g <;> simp [pushedByProgram, getFlag, flagBit]

/-- What an NMI or IRQ entry pushes has U = 1 and B = 0 (R23). -/
theorem getFlag_pushedByInterrupt (v : Byte) (g : Flag) :
    getFlag (pushedByInterrupt v) g = if g = .u then true else if g = .b then false else getFlag v g := by
  cases g <;> simp [pushedByInterrupt, getFlag, flagBit]

end Sys2Proof.Machine
end

