-- ==== Sys2Proof/Laws/Ops.lean ====
section
/-! SUPPORT. What the shared operations can do: the stack, the word reads, the addressing modes, the interrupt entry
and the reset, each in one lemma on the CPU, and the closure lemma that every invariant of the machine follows from. -/

namespace Sys2Proof.Machine

/-- What an invariant needs for every CPU operation to keep it: a change of the CPU that does not spoil the fixed bits
of P, a bus read and a bus write. -/
structure BusKeeps (I : State → Prop) : Prop where
  cpu : ∀ s c, (statusFixed s.cpu.p → statusFixed c.p) → I s → I (s.setCpu c)
  read : ∀ s a, I s → I (memRead s a).2
  write : ∀ s a v, I s → I (memWrite s a v)

/-! ### Stack -/

/-- A push moves SP down by 1 and nothing else of the CPU (R14). -/
@[simp] theorem push_cpu (s : State) (v : Byte) : (push s v).cpu = { s.cpu with sp := s.cpu.sp - 1 } := by
  simp only [push, State.setSp, memWrite_cpu]

/-- A pull moves SP up by 1 and nothing else of the CPU (R14). -/
@[simp] theorem pull_cpu (s : State) : (pull s).2.cpu = { s.cpu with sp := s.cpu.sp + 1 } := by
  simp only [pull, memRead_cpu, State.setSp]

@[simp] theorem pushWord_cpu (s : State) (a : Word) :
    (pushWord s a).cpu = { s.cpu with sp := s.cpu.sp - 1 - 1 } := by
  simp only [pushWord, push_cpu]

@[simp] theorem pullWord_cpu (s : State) : (pullWord s).2.cpu = { s.cpu with sp := s.cpu.sp + 1 + 1 } := by
  simp only [pullWord, pull_cpu]

/-- The two reads of a word leave the CPU alone (R14). -/
@[simp] theorem readPair_cpu (s : State) (lo hi : Word) : (readPair s lo hi).2.cpu = s.cpu := by
  simp only [readPair, memRead_cpu]

@[simp] theorem read16_cpu (s : State) (a : Word) : (read16 s a).2.cpu = s.cpu := readPair_cpu s a (a + 1)

@[simp] theorem readPair_ram (s : State) (lo hi : Word) : (readPair s lo hi).2.ram = s.ram := by
  simp only [readPair, memRead_ram]

@[simp] theorem readPair_params (s : State) (lo hi : Word) : (readPair s lo hi).2.params = s.params := by
  simp only [readPair, memRead_params]

/-- Running an addressing mode leaves the CPU alone (R75). -/
@[simp] theorem effective_cpu (s : State) (o : MemOperand) : (effective s o).2.cpu = s.cpu := by
  cases o <;> simp only [effective, readPointer, readPair_cpu]

/-- Running an addressing mode leaves internal RAM alone (R75). -/
@[simp] theorem effective_ram (s : State) (o : MemOperand) : (effective s o).2.ram = s.ram := by
  cases o <;> simp only [effective, readPointer, readPair_ram]

@[simp] theorem effective_params (s : State) (o : MemOperand) : (effective s o).2.params = s.params := by
  cases o <;> simp only [effective, readPointer, readPair_params]

/-- Running an addressing mode leaves every memory of the core alone (R57). -/
theorem effective_memories (s : State) (o : MemOperand) : SameMemories s (effective s o).2 := by
  have pair : ∀ lo hi, SameMemories s (readPair s lo hi).2 := fun lo hi => by
    have h1 := memRead_frame s lo
    have h2 := memRead_frame (memRead s lo).2 hi
    simp only [readPair, SameMemories]
    refine ⟨?_, ?_, ?_, ?_, ?_⟩
    · rw [h2.2.1, h1.2.1]
    · rw [h2.2.2.2.2.2.2.1, h1.2.2.2.2.2.2.1]
    · rw [h2.2.2.2.2.2.2.2.1, h1.2.2.2.2.2.2.2.1]
    · rw [h2.2.2.2.2.2.2.2.2.1, h1.2.2.2.2.2.2.2.2.1]
    · rw [h2.2.2.2.2.2.2.2.2.2, h1.2.2.2.2.2.2.2.2.2]
  cases o <;> first | exact ⟨rfl, rfl, rfl, rfl, rfl⟩ | exact pair _ _

/-- A bus read leaves every memory of the core alone (R46). -/
theorem memRead_memories (s : State) (a : Word) : SameMemories s (memRead s a).2 := by
  have h := memRead_frame s a
  exact ⟨h.2.1, h.2.2.2.2.2.2.1, h.2.2.2.2.2.2.2.1, h.2.2.2.2.2.2.2.2.1, h.2.2.2.2.2.2.2.2.2⟩

theorem SameMemories.trans {s t u : State} (h : SameMemories s t) (h' : SameMemories t u) : SameMemories s u :=
  ⟨h'.1.trans h.1, h'.2.1.trans h.2.1, h'.2.2.1.trans h.2.2.1, h'.2.2.2.1.trans h.2.2.2.1,
    h'.2.2.2.2.trans h.2.2.2.2⟩

/-! ### Closure -/

/-- A register write whose P is unchanged keeps an invariant. -/
theorem BusKeeps.sameP {I : State → Prop} (k : BusKeeps I) (s : State) (c : Cpu) (hp : c.p = s.cpu.p) (h : I s) :
    I (s.setCpu c) := k.cpu s c (fun hs => by rw [hp]; exact hs) h

theorem BusKeeps.setA {I : State → Prop} (k : BusKeeps I) (s : State) (v : Byte) (h : I s) : I (s.setA v) :=
  k.sameP s { s.cpu with a := v } rfl h

theorem BusKeeps.setX {I : State → Prop} (k : BusKeeps I) (s : State) (v : Byte) (h : I s) : I (s.setX v) :=
  k.sameP s { s.cpu with x := v } rfl h

theorem BusKeeps.setY {I : State → Prop} (k : BusKeeps I) (s : State) (v : Byte) (h : I s) : I (s.setY v) :=
  k.sameP s { s.cpu with y := v } rfl h

theorem BusKeeps.setSp {I : State → Prop} (k : BusKeeps I) (s : State) (v : Byte) (h : I s) : I (s.setSp v) :=
  k.sameP s { s.cpu with sp := v } rfl h

theorem BusKeeps.setPc {I : State → Prop} (k : BusKeeps I) (s : State) (a : Word) (h : I s) : I (s.setPc a) :=
  k.sameP s { s.cpu with pc := a } rfl h

theorem BusKeeps.setBudget {I : State → Prop} (k : BusKeeps I) (s : State) (n : Nat) (h : I s) :
    I (s.setBudget n) := k.sameP s { s.cpu with budget := n } rfl h

theorem BusKeeps.setJammed {I : State → Prop} (k : BusKeeps I) (s : State) (b : Bool) (h : I s) :
    I (s.setJammed b) := k.sameP s { s.cpu with jammed := b } rfl h

/-- A write of P that does not spoil its fixed bits keeps an invariant. -/
theorem BusKeeps.setP {I : State → Prop} (k : BusKeeps I) (s : State) (p : Byte)
    (hp : statusFixed s.cpu.p → statusFixed p) (h : I s) : I (s.setP p) := k.cpu s { s.cpu with p := p } hp h

theorem BusKeeps.push {I : State → Prop} (k : BusKeeps I) (s : State) (v : Byte) (h : I s) : I (push s v) :=
  k.setSp _ _ (k.write _ _ _ h)

theorem BusKeeps.pushWord {I : State → Prop} (k : BusKeeps I) (s : State) (a : Word) (h : I s) :
    I (pushWord s a) := k.push _ _ (k.push _ _ h)

theorem BusKeeps.pull {I : State → Prop} (k : BusKeeps I) (s : State) (h : I s) : I (pull s).2 :=
  k.read _ _ (k.setSp _ _ h)

theorem BusKeeps.pullWord {I : State → Prop} (k : BusKeeps I) (s : State) (h : I s) : I (pullWord s).2 :=
  k.pull _ (k.pull _ h)

theorem BusKeeps.readPair {I : State → Prop} (k : BusKeeps I) (s : State) (lo hi : Word) (h : I s) :
    I (readPair s lo hi).2 := k.read _ _ (k.read _ _ h)

theorem BusKeeps.effective {I : State → Prop} (k : BusKeeps I) (s : State) (o : MemOperand) (h : I s) :
    I (effective s o).2 := by
  cases o <;> first | exact h | exact k.readPair _ _ _ h

/-- Setting I does not touch the fixed bits of P. -/
theorem statusFixed_setFlag (p : Byte) (f : Flag) (v : Bool) (hu : f ≠ .u) (hb : f ≠ .b) (h : statusFixed p) :
    statusFixed (setFlag p f v) := by
  unfold statusFixed at *
  rw [getFlag_setFlag_other p v hu.symm, getFlag_setFlag_other p v hb.symm]
  exact h

/-- SetNZ does not touch the fixed bits of P. -/
theorem statusFixed_setNZ (p v : Byte) (h : statusFixed p) : statusFixed (setNZ p v) :=
  statusFixed_setFlag _ _ _ (by decide) (by decide) (statusFixed_setFlag _ _ _ (by decide) (by decide) h)

theorem statusFixed_addFlags (p a m : Byte) (h : statusFixed p) : statusFixed (addFlags p a m) :=
  statusFixed_setNZ _ _ (statusFixed_setFlag _ _ _ (by decide) (by decide)
    (statusFixed_setFlag _ _ _ (by decide) (by decide) h))

theorem statusFixed_compareFlags (p r m : Byte) (h : statusFixed p) : statusFixed (compareFlags p r m) :=
  statusFixed_setFlag _ _ _ (by decide) (by decide) (statusFixed_setFlag _ _ _ (by decide) (by decide)
    (statusFixed_setFlag _ _ _ (by decide) (by decide) h))

theorem statusFixed_bitFlags (p a m : Byte) (h : statusFixed p) : statusFixed (bitFlags p a m) :=
  statusFixed_setFlag _ _ _ (by decide) (by decide) (statusFixed_setFlag _ _ _ (by decide) (by decide)
    (statusFixed_setFlag _ _ _ (by decide) (by decide) h))

theorem statusFixed_arrFlags (p a m : Byte) (h : statusFixed p) : statusFixed (arrFlags p a m) :=
  statusFixed_setFlag _ _ _ (by decide) (by decide) (statusFixed_setFlag _ _ _ (by decide) (by decide)
    (statusFixed_setNZ _ _ h))

/-- What PLP and RTI store has the fixed bits (R23). -/
theorem statusFixed_pulledStatus (v : Byte) : statusFixed (pulledStatus v) := by
  simp [statusFixed, getFlag_pulledStatus]

/-- The interrupt entry keeps every such invariant (R254). -/
theorem BusKeeps.enter {I : State → Prop} (k : BusKeeps I) (s : State) (vector returnTo : Word) (status : Byte)
    (h : I s) : I (enter s vector returnTo status) := by
  unfold Machine.enter read16
  dsimp only
  have pushed := k.push _ status (k.pushWord s returnTo h)
  generalize Machine.push (Machine.pushWord s returnTo) status = m at *
  have masked := k.setP m (setFlag m.cpu.p .i true)
    (statusFixed_setFlag m.cpu.p .i true (by decide) (by decide)) pushed
  exact k.setBudget _ 7 (k.setPc _ _ (k.readPair _ vector (vector + 1) masked))

end Sys2Proof.Machine
end

