-- ==== Sys2Proof/Laws/Commute.lean ====
section
/-! SUPPORT. The bus does not look at the CPU: reads, writes and pointer reads commute with every change of the CPU, so
that what an instruction does to the machine can be said as its bus accesses on the machine it started from, with
another CPU. And the bytes of memory that the accesses leave alone. -/

namespace Sys2Proof.Machine

/-! ### Register writes as changes of the CPU -/

@[simp] theorem setCpu_setCpu (s : State) (c d : Cpu) : (s.setCpu c).setCpu d = s.setCpu d := rfl
@[simp] theorem setCpu_self (s : State) : s.setCpu s.cpu = s := rfl
@[simp] theorem setCpu_cpu (s : State) (c : Cpu) : (s.setCpu c).cpu = c := rfl

theorem setA_eq (s : State) (v : Byte) : s.setA v = s.setCpu { s.cpu with a := v } := rfl
theorem setX_eq (s : State) (v : Byte) : s.setX v = s.setCpu { s.cpu with x := v } := rfl
theorem setY_eq (s : State) (v : Byte) : s.setY v = s.setCpu { s.cpu with y := v } := rfl
theorem setSp_eq (s : State) (v : Byte) : s.setSp v = s.setCpu { s.cpu with sp := v } := rfl
theorem setPc_eq (s : State) (a : Word) : s.setPc a = s.setCpu { s.cpu with pc := a } := rfl
theorem setP_eq (s : State) (v : Byte) : s.setP v = s.setCpu { s.cpu with p := v } := rfl
theorem setBudget_eq (s : State) (n : Nat) : s.setBudget n = s.setCpu { s.cpu with budget := n } := rfl
theorem setJammed_eq (s : State) (b : Bool) : s.setJammed b = s.setCpu { s.cpu with jammed := b } := rfl
theorem setNmiPending_eq (s : State) (b : Bool) : s.setNmiPending b = s.setCpu { s.cpu with nmiPending := b } := rfl
theorem updateNZ_eq (s : State) (v : Byte) : s.updateNZ v = s.setCpu { s.cpu with p := setNZ s.cpu.p v } := rfl

/-! ### The bus and the CPU -/

@[simp] theorem ownValue_setCpu (s : State) (c : Cpu) (a : Word) : ownValue (s.setCpu c) a = ownValue s a := by
  simp only [ownValue, State.setCpu]

@[simp] theorem ownReadEffect_setCpu (s : State) (c : Cpu) (a : Word) :
    ownReadEffect (s.setCpu c) a = (ownReadEffect s a).setCpu c := by
  simp only [ownReadEffect]
  cases regionOf a <;> rfl

/-- A read on a machine with another CPU (R46). -/
@[simp] theorem memRead_setCpu (s : State) (c : Cpu) (a : Word) :
    memRead (s.setCpu c) a = ((memRead s a).1, (memRead s a).2.setCpu c) := by
  simp only [memRead, State.setCpu_cart]
  cases (cartCpuRead s.cart a).1 with
  | some v => rfl
  | none =>
    show (ownValue ((s.setCart _).setCpu c) a, ownReadEffect ((s.setCart _).setCpu c) a) = _
    rw [ownValue_setCpu, ownReadEffect_setCpu]

@[simp] theorem peek_setCpu (s : State) (c : Cpu) (a : Word) : peek (s.setCpu c) a = peek s a := by
  simp only [← memRead_value, memRead_setCpu]

theorem ownWrite_setCpu (s : State) (c : Cpu) (a : Word) (v : Byte) :
    ownWrite (s.setCpu c) a v = (ownWrite s a v).setCpu c := by
  simp only [ownWrite]
  cases regionOf a <;> rfl

/-- A write on a machine with another CPU (R48). -/
@[simp] theorem memWrite_setCpu (s : State) (c : Cpu) (a : Word) (v : Byte) :
    memWrite (s.setCpu c) a v = (memWrite s a v).setCpu c := by
  simp only [memWrite, State.setCpu_cart]
  by_cases h : (cartCpuWrite s.cart a v).1 = true
  · simp only [h, if_true]; rfl
  · simp only [h]
    exact ownWrite_setCpu (s.setCart (cartCpuWrite s.cart a v).2) c a v

@[simp] theorem readPair_setCpu (s : State) (c : Cpu) (lo hi : Word) :
    readPair (s.setCpu c) lo hi = ((readPair s lo hi).1, (readPair s lo hi).2.setCpu c) := by
  simp only [readPair, memRead_setCpu]

/-- An addressing mode on a machine whose index registers are the same (R75). -/
theorem effective_setCpu (s : State) (c : Cpu) (o : MemOperand) (hx : c.x = s.cpu.x) (hy : c.y = s.cpu.y) :
    effective (s.setCpu c) o = ((effective s o).1, (effective s o).2.setCpu c) := by
  cases o <;> simp only [effective, readPointer, readPair_setCpu, setCpu_cpu, hx, hy]

/-! ### The stack -/

theorem stackAddress_eq (sp : Byte) : stackAddress sp = stackCell sp := by
  simp only [stackAddress, stackCell, wordOf]
  apply BitVec.eq_of_toNat_eq
  have h := sp.isLt
  simp only [BitVec.toNat_append, BitVec.toNat_or, BitVec.toNat_setWidth, BitVec.toNat_ofNat]
  rw [Nat.mod_eq_of_lt (by omega : sp.toNat < 2 ^ 16)]
  rfl

/-- A push as a write on the machine with SP moved down (R14). -/
theorem push_eq (s : State) (v : Byte) :
    push s v = (memWrite s (stackCell s.cpu.sp) v).setCpu { s.cpu with sp := s.cpu.sp - 1 } := by
  rw [push, stackAddress_eq, setSp_eq, memWrite_cpu]

/-- A pull as a read on the machine with SP moved up (R14). -/
theorem pull_eq (s : State) :
    pull s = ((memRead s (stackCell (s.cpu.sp + 1))).1,
      (memRead s (stackCell (s.cpu.sp + 1))).2.setCpu { s.cpu with sp := s.cpu.sp + 1 }) := by
  rw [pull, stackAddress_eq, setSp_eq, memRead_setCpu]

/-- The address a stack cell has (R21). -/
theorem stackCell_toNat (sp : Byte) : (stackCell sp).toNat = 256 + sp.toNat := by
  rw [← stackAddress_eq]
  simp only [stackAddress, wordOf, BitVec.toNat_append]
  have h := sp.isLt
  have e : (1#8).toNat <<< 8 ||| sp.toNat = 256 + sp.toNat := by
    rw [show (1#8).toNat <<< 8 = 2 ^ 8 * 1 from rfl, ← Nat.two_pow_add_eq_or_of_lt h]
  exact e

/-! ### Bytes of memory left alone -/

/-- A read keeps a cartridge whose contents are listed (R49). -/
theorem memRead_cart (s : State) (a : Word) (h : ∀ cs, s.cart ≠ .custom cs) : (memRead s a).2.cart = s.cart := by
  have same : ∀ c : Cart, (∀ cs, c ≠ .custom cs) → ∀ a, (cartCpuRead c a).2 = c := fun c hc a => by
    cases c with
    | absent => rfl
    | board m => rfl
    | custom cs => exact absurd rfl (hc cs)
  have sameP : ∀ c : Cart, (∀ cs, c ≠ .custom cs) → ∀ a, (cartPpuRead c a).2 = c := fun c hc a => by
    cases c with
    | absent => rfl
    | board m => rfl
    | custom cs => exact absurd rfl (hc cs)
  have hs := same s.cart h a
  unfold memRead
  dsimp only
  rw [hs]
  split
  · rfl
  · rcases ownReadEffect_cases (s.setCart s.cart) a with e | ⟨r, e⟩ | e | e | e <;> rw [e] <;> try rfl
    rcases ppuRegRead_cases (s.setCart s.cart).ppuBus r with ⟨_, e⟩ | ⟨_, e⟩ | e <;> rw [e]
    · rfl
    · exact sameP s.cart h _
    · rfl

/-- A write keeps what a listed cartridge shows the CPU (R49). -/
theorem memWrite_prg (s : State) (a : Word) (v : Byte) (h : ∀ cs, s.cart ≠ .custom cs) :
    (∀ cs, (memWrite s a v).cart ≠ .custom cs) ∧
    ∀ b, (cartCpuRead (memWrite s a v).cart b).1 = (cartCpuRead s.cart b).1 := by
  have key := memWrite_keeps
    (fun t => (∀ cs, t.cart ≠ .custom cs) ∧ ∀ b, (cartCpuRead t.cart b).1 = (cartCpuRead s.cart b).1)
  have own : ∀ t : State, ((∀ cs, t.cart ≠ .custom cs) ∧
      ∀ b, (cartCpuRead t.cart b).1 = (cartCpuRead s.cart b).1) → ∀ a,
      ((∀ cs, (ownWrite t a v).cart ≠ .custom cs) ∧
      ∀ b, (cartCpuRead (ownWrite t a v).cart b).1 = (cartCpuRead s.cart b).1) := fun t ht a => by
    unfold ownWrite
    cases regionOf a with
    | ppu r =>
      show (∀ cs, (ppuRegWrite t.ppuBus r v).cart ≠ .custom cs) ∧
        ∀ b, (cartCpuRead (ppuRegWrite t.ppuBus r v).cart b).1 = (cartCpuRead s.cart b).1
      unfold ppuRegWrite
      split <;> try exact ht
      show (∀ cs, (cartPpuWrite t.cart _ v).2 ≠ .custom cs) ∧
        ∀ b, (cartCpuRead (cartPpuWrite t.cart _ v).2 b).1 = (cartCpuRead s.cart b).1
      obtain ⟨h1, h2⟩ := ht
      cases hc : t.cart with
      | absent => rw [hc] at h2; exact ⟨fun _ => Cart.noConfusion, h2⟩
      | board m =>
        rw [hc] at h2
        simp only [cartPpuWrite]
        split
        · exact ⟨fun _ => Cart.noConfusion, h2⟩
        · exact ⟨fun _ => Cart.noConfusion, h2⟩
      | custom cs => exact absurd hc (h1 cs)
    | _ => exact ht
  unfold memWrite
  dsimp only
  have hc : (cartCpuWrite s.cart a v).2 = s.cart := by
    cases hs : s.cart with
    | absent => rfl
    | board m => rfl
    | custom cs => exact absurd hs (h cs)
  rw [hc]
  split
  · exact ⟨h, fun _ => rfl⟩
  · exact own (s.setCart s.cart) ⟨h, fun _ => rfl⟩ a

/-- What the peek shows from $4018 up depends on the cartridge alone (R45, R47). -/
theorem peek_high (s : State) (a : Word) (h : 0x4018 ≤ a.toNat) :
    peek s a = ((cartCpuRead s.cart a).1).getD 0 := by
  unfold peek
  split <;> rename_i e <;> simp only [e, Option.getD]
  simp only [ownValue, regionOf_unmapped h]

theorem MemoryFrame.refl (s : State) (l : List Word) : MemoryFrame s s l := ⟨fun _ _ _ => rfl, fun _ _ _ => rfl⟩

theorem MemoryFrame.trans {s t u : State} {l l' : List Word} (hc : (∀ cs, s.cart ≠ .custom cs) →
    ∀ cs, t.cart ≠ .custom cs) (h : MemoryFrame s t l) (h' : MemoryFrame t u l') :
    MemoryFrame s u (l ++ l') := by
  refine ⟨fun a ha hl => ?_, fun hs a ha => ?_⟩
  · rw [h'.1 a ha (fun b hb => hl b (List.mem_append_right _ hb)),
      h.1 a ha (fun b hb => hl b (List.mem_append_left _ hb))]
  · rw [h'.2 (hc hs) a ha, h.2 hs a ha]

/-- A change of the CPU leaves every byte alone. -/
theorem MemoryFrame.setCpu {s t : State} {l : List Word} (c : Cpu) (h : MemoryFrame s t l) :
    MemoryFrame s (t.setCpu c) l :=
  ⟨fun a ha hl => h.1 a ha hl, fun hs a ha => by rw [peek_setCpu]; exact h.2 hs a ha⟩

/-- A read leaves every byte of memory alone (R46). -/
theorem memRead_memoryFrame (s : State) (a : Word) : MemoryFrame s (memRead s a).2 [] := by
  refine ⟨fun b _ _ => by simp only [ramByte, memRead_ram], fun hs b hb => ?_⟩
  rw [peek_high _ _ hb, peek_high _ _ hb, memRead_cart s a hs]

/-- A write leaves every byte of memory alone but the one at its address (R48). -/
theorem memWrite_memoryFrame (s : State) (a : Word) (v : Byte) : MemoryFrame s (memWrite s a v) [a] := by
  refine ⟨fun b hb hl => ?_, fun hs b hb => ?_⟩
  · simp only [ramByte, memWrite_ram]
    split
    · rename_i h
      apply Memory.load_store_other
      intro e
      exact hl a (by simp) ⟨hb, h.2, e⟩
    · rfl
  · rw [peek_high _ _ hb, peek_high _ _ hb, (memWrite_prg s a v hs).2]

/-- The pointer reads of an addressing mode leave every byte of memory alone, and a listed cartridge. -/
theorem effective_memoryFrame (s : State) (o : MemOperand) :
    MemoryFrame s (effective s o).2 [] ∧ ((∀ cs, s.cart ≠ .custom cs) → (effective s o).2.cart = s.cart) := by
  have pair : ∀ lo hi, MemoryFrame s (readPair s lo hi).2 [] ∧
      ((∀ cs, s.cart ≠ .custom cs) → (readPair s lo hi).2.cart = s.cart) := fun lo hi => by
    refine ⟨?_, fun hs => ?_⟩
    · exact MemoryFrame.trans (fun hs => by rw [memRead_cart s lo hs]; exact hs) (memRead_memoryFrame s lo)
        (memRead_memoryFrame _ hi)
    · simp only [readPair]
      rw [memRead_cart _ hi (by rw [memRead_cart s lo hs]; exact hs), memRead_cart s lo hs]
  cases o <;> first | exact ⟨MemoryFrame.refl _ _, fun _ => rfl⟩ | exact pair _ _

/-! ### The frames of the statements -/

/-- After the operand read of any memory mode, with any CPU, no memory has changed. -/
theorem readFrame_setCpu (s : State) (o : MemOperand) (c : Cpu) : ReadFrame s ((afterOperand s o).setCpu c) o := by
  refine ⟨rfl, ?_, MemoryFrame.setCpu c ?_⟩
  · exact (effective_memories s o).trans (memRead_memories _ _)
  · refine MemoryFrame.trans (fun hs => ?_) (effective_memoryFrame s o).1 (memRead_memoryFrame _ _)
    rw [(effective_memoryFrame s o).2 hs]; exact hs

/-- After a write on a machine that differs from the first by reads, with any CPU. -/
theorem writeFrame_setCpu (s m : State) (a : Word) (v : Byte) (c : Cpu) (h : MemoryFrame s m [])
    (hc : (∀ cs, s.cart ≠ .custom cs) → ∀ cs, m.cart ≠ .custom cs) :
    WriteFrame s m ((memWrite m a v).setCpu c) a v := by
  refine ⟨rfl, MemoryFrame.setCpu c (MemoryFrame.trans hc h (memWrite_memoryFrame m a v)), fun ha hw => ?_⟩
  show ramByte (memWrite m a v) a = v
  simp only [ramByte, memWrite_ram, hw, ha, and_self, if_true, Memory.load_store_same]

/-- The machine after the pointer reads satisfies what `writeFrame_setCpu` asks. -/
theorem afterPointer_frame (s : State) (o : MemOperand) : MemoryFrame s (afterPointer s o) [] ∧
    ((∀ cs, s.cart ≠ .custom cs) → ∀ cs, (afterPointer s o).cart ≠ .custom cs) :=
  ⟨(effective_memoryFrame s o).1, fun hs => by rw [afterPointer, (effective_memoryFrame s o).2 hs]; exact hs⟩

/-- The machine after the operand read satisfies what `writeFrame_setCpu` asks. -/
theorem afterOperand_frame (s : State) (o : MemOperand) : MemoryFrame s (afterOperand s o) [] ∧
    ((∀ cs, s.cart ≠ .custom cs) → ∀ cs, (afterOperand s o).cart ≠ .custom cs) := by
  have h := afterPointer_frame s o
  refine ⟨MemoryFrame.trans h.2 h.1 (memRead_memoryFrame _ _), fun hs => ?_⟩
  show ∀ cs, (memRead (afterPointer s o) _).2.cart ≠ .custom cs
  rw [memRead_cart _ _ (h.2 hs)]
  exact h.2 hs

@[simp] theorem afterOperand_cpu (s : State) (o : MemOperand) : (afterOperand s o).cpu = s.cpu := by
  simp only [afterOperand, memRead_cpu, effective_cpu]

end Sys2Proof.Machine
end

