-- ==== Sys2Proof/Laws/Shapes.lean ====
section
/-! SUPPORT. What each shape of instruction does, once, as its bus accesses on the machine it started from with another
CPU: the lemmas the statements about single instructions cite. -/

namespace Sys2Proof.Machine

/-- The cycles of a reading shape are the cycles of its table row (R70). -/
theorem readCycles_eq (s : State) (f : MemForm) :
    readCycles f.cycles f.page (effective s f.operand).1 = formCycles s f := by
  unfold readCycles formCycles crossed
  cases f.page <;> simp
  split <;> simp_all

/-- Every flag after SetNZ, as the statements say it (R14). -/
theorem flagsFrom_setNZ (p v : Byte) : FlagsFrom v [] p (setNZ p v) := by
  refine ⟨?_, ?_, fun f hf => ?_⟩
  · simp [getFlag_setNZ]
  · simp [getFlag_setNZ]; rfl
  · simp at hf
    simp [getFlag_setNZ, hf]

/-- Flags other than a list's are kept by a write of a listed flag before. -/
theorem FlagsFrom.after_setFlag {v p q : Byte} {f : Flag} {b : Bool} {l : List Flag}
    (h : FlagsFrom v l (setFlag p f b) q) : FlagsFrom v (f :: l) p q := by
  refine ⟨h.1, h.2.1, fun g hg => ?_⟩
  simp only [List.mem_cons, not_or] at hg
  rw [h.2.2 g (by simp [hg]), getFlag_setFlag_other p b hg.2.2.1]

/-- A reading shape whose operation is a change of the CPU. -/
theorem execRead_eq (o : MemOperand) (c : Nat) (page : Bool) (op : State → Byte → State) (g : Cpu → Byte → Cpu)
    (hop : ∀ s v, op s v = s.setCpu (g s.cpu v)) (s : State) :
    execRead o c page op s = .next ((afterOperand s o).setCpu
      { g s.cpu (operandByte s o) with budget := readCycles c page (effective s o).1 }) := by
  simp only [execRead, finish, hop, setBudget_eq, setCpu_setCpu, setCpu_cpu, memRead_cpu, effective_cpu]
  rfl

/-- The table rows of a reading instruction complete, with the CPU its operation gives, and change no memory. -/
theorem reading_rows (forms : List MemForm) (op : State → Byte → State) (g : Cpu → Byte → Cpu)
    (hop : ∀ s v, op s v = s.setCpu (g s.cpu v)) (s : State)
    (hf : ∀ f ∈ forms, Encodes f ∧ exec f.instr s = execRead f.operand f.cycles f.page op s) :
    ∀ f ∈ forms, Encodes f ∧ ∃ t, exec f.instr s = .next t ∧
      t.cpu = { g s.cpu (operandByte s f.operand) with budget := formCycles s f } ∧ ReadFrame s t f.operand := by
  intro f h
  obtain ⟨h1, h2⟩ := hf f h
  refine ⟨h1, _, h2.trans (execRead_eq _ _ _ op g hop s), ?_, readFrame_setCpu _ _ _⟩
  rw [readCycles_eq]; rfl

/-- A store shape. -/
theorem execStore_eq (o : MemOperand) (c : Nat) (value : Cpu → Byte) (s : State) :
    execStore o c value s = .next ((memWrite (afterPointer s o) (effectiveAddress s o) (value s.cpu)).setCpu
      { s.cpu with budget := c }) := by
  simp only [execStore, finish, setBudget_eq, memWrite_cpu, effective_cpu]
  rfl

/-- The table rows of a store complete and write one byte. -/
theorem storing_rows (forms : List MemForm) (value : Cpu → Byte) (s : State)
    (hf : ∀ f ∈ forms, Encodes f ∧ exec f.instr s = execStore f.operand f.cycles value s) :
    ∀ f ∈ forms, Encodes f ∧ ∃ t, exec f.instr s = .next t ∧ t.cpu = { s.cpu with budget := f.cycles } ∧
      WriteFrame s (afterPointer s f.operand) t (effectiveAddress s f.operand) (value s.cpu) := by
  intro f h
  obtain ⟨h1, h2⟩ := hf f h
  have frame := afterPointer_frame s f.operand
  exact ⟨h1, _, h2.trans (execStore_eq _ _ _ s), rfl, writeFrame_setCpu _ _ _ _ _ frame.1 frame.2⟩

/-- A read-modify-write shape whose last operation is a change of the CPU. -/
theorem execModify_eq (o : MemOperand) (c : Nat) (modify : Byte → Byte → Byte × Byte)
    (after : State → Byte → State) (g : Cpu → Byte → Cpu) (hafter : ∀ s v, after s v = s.setCpu (g s.cpu v))
    (s : State) :
    execModify o c modify after s = .next
      ((memWrite (afterOperand s o) (effectiveAddress s o) (modify (operandByte s o) s.cpu.p).1).setCpu
        { g { s.cpu with p := (modify (operandByte s o) s.cpu.p).2 } (modify (operandByte s o) s.cpu.p).1 with
          budget := c }) := by
  simp only [execModify, finish, hafter, setBudget_eq, setP_eq, setCpu_setCpu, setCpu_cpu, memWrite_cpu, memRead_cpu,
    effective_cpu]
  rfl

/-- The table rows of a read-modify-write complete, write one byte, and give the CPU of their last operation. -/
theorem modifying_rows (forms : List MemForm) (modify : Byte → Byte → Byte × Byte) (after : State → Byte → State)
    (g : Cpu → Byte → Cpu) (hafter : ∀ s v, after s v = s.setCpu (g s.cpu v)) (s : State)
    (hf : ∀ f ∈ forms, Encodes f ∧ exec f.instr s = execModify f.operand f.cycles modify after s) :
    ∀ f ∈ forms, Encodes f ∧ ∃ t, exec f.instr s = .next t ∧
      t.cpu = { g { s.cpu with p := (modify (operandByte s f.operand) s.cpu.p).2 }
        (modify (operandByte s f.operand) s.cpu.p).1 with budget := f.cycles } ∧
      WriteFrame s (afterOperand s f.operand) t (effectiveAddress s f.operand)
        (modify (operandByte s f.operand) s.cpu.p).1 := by
  intro f h
  obtain ⟨h1, h2⟩ := hf f h
  have frame := afterOperand_frame s f.operand
  exact ⟨h1, _, h2.trans (execModify_eq _ _ _ after g hafter s), rfl,
    writeFrame_setCpu _ _ _ _ _ frame.1 frame.2⟩

end Sys2Proof.Machine
end

