-- ==== Sys2Proof/Laws/Arith.lean ====
section
/-! SUPPORT. The adder, the comparator and the four shifts as arithmetic on numbers: the terms of the statements
(R102, R104, R106, R114-R117). -/

namespace Sys2Proof.Machine

/-- The adder's result and flags, as arithmetic on numbers (R102). -/
theorem addFlags_addsTo (a m p : Byte) : AddsTo a m p (addResult a m (getFlag p .c)) (addFlags p a m) := by
  refine ⟨addResult_toNat _ _ _, ?_, ?_, ?_, ?_, ?_⟩
  · rw [getFlag_addFlags]; simp [addCarry_eq]
  · rw [getFlag_addFlags]; simp [addOverflow]
  · rw [getFlag_addFlags]; simp 
  · rw [getFlag_addFlags]; simp; rfl
  · intro f hf
    simp at hf
    rw [getFlag_addFlags]; simp [hf]

/-- Adding the complement is subtracting (R106). -/
theorem AddsTo.subtractsTo (a m p r q : Byte) (h : AddsTo a (m ^^^ 0xFF#8) p r q) : SubtractsTo a m p r q := by
  obtain ⟨h1, h2, h3, h4⟩ := h
  have e : m ^^^ 0xFF#8 = ~~~m := (by decide : ∀ m : BitVec 8, m ^^^ 0xFF#8 = ~~~m) m
  have hm : (m ^^^ 0xFF#8).toNat = 255 - m.toNat := by rw [e]; simp
  have := a.isLt; have := m.isLt; have := r.isLt
  have hc : (getFlag p .c).toNat ≤ 1 := by cases getFlag p .c <;> simp
  refine ⟨?_, ?_, by rw [h3, e], h4⟩
  · rw [h1, hm]; omega
  · rw [h2, hm]; congr 1; simp; omega

/-- The comparator, as the statements say it (R104). -/
theorem compareFlags_comparesTo (r m p : Byte) : ComparesTo r m p (compareFlags p r m) := by
  refine ⟨?_, ?_, ?_, ?_⟩
  · simp [getFlag_compareFlags]
  · simp [getFlag_compareFlags]; rfl
  · simp [getFlag_compareFlags]
  · intro f hf; simp at hf; simp [getFlag_compareFlags, hf]

/-- ASL as arithmetic on the byte (R114). -/
theorem aslOp_eq (v p : Byte) :
    (aslOp v p).1.toNat = 2 * v.toNat % 256 ∧
    (aslOp v p).2 = setFlag p .c (v.getLsbD 7) := by
  refine ⟨?_, rfl⟩
  simp [aslOp, Nat.shiftLeft_eq]; omega

/-- LSR as arithmetic on the byte (R115). -/
theorem lsrOp_eq (v p : Byte) :
    (lsrOp v p).1.toNat = v.toNat / 2 ∧
    (lsrOp v p).2 = setFlag p .c (v.getLsbD 0) := by
  refine ⟨?_, rfl⟩
  simp [lsrOp, Nat.shiftRight_eq_div_pow]

/-- ROL as arithmetic on the byte and the carry (R116). -/
theorem rolOp_eq (v p : Byte) :
    (rolOp v p).1.toNat = (2 * v.toNat + (getFlag p .c).toNat) % 256 ∧
    (rolOp v p).2 = setFlag p .c (v.getLsbD 7) := by
  refine ⟨?_, rfl⟩
  unfold rolOp
  dsimp only; generalize getFlag p .c = c
  revert v
  cases c <;> decide +kernel

/-- ROR as arithmetic on the byte and the carry (R117). -/
theorem rorOp_eq (v p : Byte) :
    (rorOp v p).1.toNat = (v.toNat / 2 + 128 * (getFlag p .c).toNat)  ∧
    (rorOp v p).2 = setFlag p .c (v.getLsbD 0) := by
  refine ⟨?_, rfl⟩
  unfold rorOp
  dsimp only; generalize getFlag p .c = c
  revert v
  cases c <;> decide +kernel

end Sys2Proof.Machine
end

