-- ==== Sys2Proof/Laws/Exec.lean ====
section
/-! SUPPORT. What the shapes of instruction can do, and the closure of every invariant under `exec`: for each shape one
lemma, and from them one lemma for all 256 instructions. -/

namespace Sys2Proof.Machine

/-- An operation on a byte keeps every invariant the bus keeps. -/
def OpKeeps (op : State → Byte → State) : Prop := ∀ I : State → Prop, BusKeeps I → ∀ s v, I s → I (op s v)

theorem updateNZ_keeps {I : State → Prop} (k : BusKeeps I) (s : State) (v : Byte) (h : I s) : I (s.updateNZ v) :=
  k.setP _ _ (statusFixed_setNZ _ _) h

theorem loadA_keeps : OpKeeps loadA := fun _ k _ _ h => updateNZ_keeps k _ _ (k.setA _ _ h)
theorem loadX_keeps : OpKeeps loadX := fun _ k _ _ h => updateNZ_keeps k _ _ (k.setX _ _ h)
theorem loadY_keeps : OpKeeps loadY := fun _ k _ _ h => updateNZ_keeps k _ _ (k.setY _ _ h)
theorem adcA_keeps : OpKeeps adcA := fun _ k _ _ h => k.setP _ _ (statusFixed_addFlags _ _ _) (k.setA _ _ h)
theorem sbcA_keeps : OpKeeps sbcA := fun I k s v h => adcA_keeps I k s (v ^^^ 0xFF#8) h
theorem andA_keeps : OpKeeps andA := fun I k s _ h => loadA_keeps I k s _ h
theorem oraA_keeps : OpKeeps oraA := fun I k s _ h => loadA_keeps I k s _ h
theorem eorA_keeps : OpKeeps eorA := fun I k s _ h => loadA_keeps I k s _ h
theorem compareA_keeps : OpKeeps compareA := fun _ k _ _ h => k.setP _ _ (statusFixed_compareFlags _ _ _) h
theorem compareX_keeps : OpKeeps compareX := fun _ k _ _ h => k.setP _ _ (statusFixed_compareFlags _ _ _) h
theorem compareY_keeps : OpKeeps compareY := fun _ k _ _ h => k.setP _ _ (statusFixed_compareFlags _ _ _) h
theorem testBits_keeps : OpKeeps testBits := fun _ k _ _ h => k.setP _ _ (statusFixed_bitFlags _ _ _) h
theorem loadAX_keeps : OpKeeps loadAX := fun _ k _ _ h => updateNZ_keeps k _ _ (k.setX _ _ (k.setA _ _ h))
theorem loadAXSp_keeps : OpKeeps loadAXSp :=
  fun _ k _ _ h => updateNZ_keeps k _ _ (k.setSp _ _ (k.setX _ _ (k.setA _ _ h)))
theorem ignoreByte_keeps : OpKeeps ignoreByte := fun _ _ _ _ h => h
theorem flagsOfByte_keeps : OpKeeps flagsOfByte := fun _ k s v h => updateNZ_keeps k s v h
theorem ancA_keeps : OpKeeps ancA := fun _ k _ _ h =>
  k.setP _ _ (fun hp => statusFixed_setFlag _ _ _ (by decide) (by decide) (statusFixed_setNZ _ _ hp)) (k.setA _ _ h)
theorem alrA_keeps : OpKeeps alrA := fun _ k _ _ h =>
  k.setP _ _ (fun hp => statusFixed_setNZ _ _ (statusFixed_setFlag _ _ _ (by decide) (by decide) hp)) (k.setA _ _ h)
theorem arrA_keeps : OpKeeps arrA := fun _ k _ _ h => k.setP _ _ (statusFixed_arrFlags _ _ _) (k.setA _ _ h)
theorem axsX_keeps : OpKeeps axsX := fun _ k _ _ h =>
  k.setP _ _ (fun hp => statusFixed_setNZ _ _ (statusFixed_setFlag _ _ _ (by decide) (by decide) hp)) (k.setX _ _ h)
theorem xaaA_keeps : OpKeeps xaaA := fun I k s _ h => loadA_keeps I k s _ h
theorem lxaAX_keeps : OpKeeps lxaAX := fun I k s _ h => loadAX_keeps I k s _ h

/-- A modification of a byte does not touch the fixed bits of P. -/
def ModifyKeeps (modify : Byte → Byte → Byte × Byte) : Prop := ∀ v p, statusFixed p → statusFixed (modify v p).2

theorem aslOp_keeps : ModifyKeeps aslOp := fun _ _ h => statusFixed_setFlag _ _ _ (by decide) (by decide) h
theorem lsrOp_keeps : ModifyKeeps lsrOp := fun _ _ h => statusFixed_setFlag _ _ _ (by decide) (by decide) h
theorem rolOp_keeps : ModifyKeeps rolOp := fun _ _ h => statusFixed_setFlag _ _ _ (by decide) (by decide) h
theorem rorOp_keeps : ModifyKeeps rorOp := fun _ _ h => statusFixed_setFlag _ _ _ (by decide) (by decide) h
theorem incOp_keeps : ModifyKeeps incOp := fun _ _ h => h
theorem decOp_keeps : ModifyKeeps decOp := fun _ _ h => h

/-! ### Shapes -/

variable {I : State → Prop} {s t : State}

theorem finish_keeps (k : BusKeeps I) {c : Nat} (h : I s) (e : finish s c = .next t) : I t := by
  injection e with e; subst e; exact k.setBudget _ _ h

theorem next_keeps {u : State} (h : I u) (e : (Host.Outcome.next u : Host.Outcome State Fault Refusal) = .next t) :
    I t := by
  injection e with e; subst e; exact h

/-- A reading instruction keeps every invariant the bus and its operation keep. -/
theorem execRead_keeps (k : BusKeeps I) {o : MemOperand} {c : Nat} {page : Bool} {op : State → Byte → State}
    (hop : OpKeeps op) (h : I s) (e : execRead o c page op s = .next t) : I t :=
  finish_keeps k (hop I k _ _ (k.read _ _ (k.effective s o h))) e

/-- A store keeps every invariant the bus keeps. -/
theorem execStore_keeps (k : BusKeeps I) {o : MemOperand} {c : Nat} {value : Cpu → Byte} (h : I s)
    (e : execStore o c value s = .next t) : I t :=
  finish_keeps k (k.write _ _ _ (k.effective s o h)) e

/-- A read-modify-write keeps every invariant the bus and its two operations keep. -/
theorem execModify_keeps (k : BusKeeps I) {o : MemOperand} {c : Nat} {modify : Byte → Byte → Byte × Byte}
    {after : State → Byte → State} (hm : ModifyKeeps modify) (ha : OpKeeps after) (h : I s)
    (e : execModify o c modify after s = .next t) : I t := by
  refine finish_keeps k (ha I k _ _ (k.setP _ _ ?_ (k.write _ _ _ (k.read _ _ (k.effective s o h))))) e
  intro hp
  simp only [memWrite_cpu] at hp
  exact hm _ _ hp

theorem execModifyA_keeps (k : BusKeeps I) {c : Nat} {modify : Byte → Byte → Byte × Byte}
    (hm : ModifyKeeps modify) (h : I s) (e : execModifyA c modify s = .next t) : I t :=
  finish_keeps k (updateNZ_keeps k _ _ (k.setA _ _ (k.setP _ _ (hm _ _) h))) e

theorem execHighStore_keeps (k : BusKeeps I) {opcode : Byte} {o : MemOperand} {c : Nat} {before : State → State}
    {reg : Cpu → Byte} (hb : I (before s)) (e : execHighStore opcode o c before reg s = .next t) : I t := by
  unfold execHighStore at e
  split at e
  · cases e
  · exact finish_keeps k (k.write _ _ _ (k.effective _ o hb)) e

theorem execBranch_keeps (k : BusKeeps I) {off : Byte} {f : Flag} {value : Bool} (h : I s)
    (e : execBranch off f value s = .next t) : I t := by
  unfold execBranch at e
  dsimp only at e
  split at e
  · exact finish_keeps k (k.setPc _ _ h) e
  · exact finish_keeps k h e

theorem execJam_keeps (k : BusKeeps I) {opcode : Byte} (h : I s) (e : execJam opcode s = .next t) : I t := by
  unfold execJam at e
  split at e
  · injection e with e; subst e; exact k.setJammed _ _ h
  · cases e

/-- The return from an interrupt keeps every invariant the bus keeps (R136). -/
theorem interruptReturn_keeps (k : BusKeeps I) (h : I s) : I (interruptReturn s) :=
  k.setPc _ _ (k.pullWord _ (k.setP _ _ (fun _ => statusFixed_pulledStatus _) (k.pull _ h)))

/-- Every instruction keeps every invariant that bus reads, bus writes and changes of the CPU keep. -/
theorem exec_keeps (k : BusKeeps I) (i : Instr) (h : I s) (e : exec i s = .next t) : I t := by
  cases i with
  | brk =>
    exact next_keeps (k.enter _ _ _ _ h) (show execBrk s = _ from e)
  | oraIzx zp =>
    exact execRead_keeps k oraA_keeps h (show execOraIzx zp s = _ from e)
  | jam02 =>
    exact execJam_keeps k h (show execJam02 s = _ from e)
  | sloIzx zp =>
    exact execModify_keeps k aslOp_keeps oraA_keeps h (show execSloIzx zp s = _ from e)
  | nopZp04 zp =>
    exact execRead_keeps k ignoreByte_keeps h (show execNopZp04 zp s = _ from e)
  | oraZp zp =>
    exact execRead_keeps k oraA_keeps h (show execOraZp zp s = _ from e)
  | aslZp zp =>
    exact execModify_keeps k aslOp_keeps flagsOfByte_keeps h (show execAslZp zp s = _ from e)
  | sloZp zp =>
    exact execModify_keeps k aslOp_keeps oraA_keeps h (show execSloZp zp s = _ from e)
  | php =>
    exact finish_keeps k (k.push _ _ h) (show execPhp s = _ from e)
  | oraImm imm =>
    exact finish_keeps k (oraA_keeps I k _ _ h) (show execOraImm imm s = _ from e)
  | aslAcc =>
    exact execModifyA_keeps k aslOp_keeps h (show execAslAcc s = _ from e)
  | ancImm0B imm =>
    exact finish_keeps k (ancA_keeps I k _ _ h) (show execAncImm0B imm s = _ from e)
  | nopAbs addr =>
    exact execRead_keeps k ignoreByte_keeps h (show execNopAbs addr s = _ from e)
  | oraAbs addr =>
    exact execRead_keeps k oraA_keeps h (show execOraAbs addr s = _ from e)
  | aslAbs addr =>
    exact execModify_keeps k aslOp_keeps flagsOfByte_keeps h (show execAslAbs addr s = _ from e)
  | sloAbs addr =>
    exact execModify_keeps k aslOp_keeps oraA_keeps h (show execSloAbs addr s = _ from e)
  | bpl off =>
    exact execBranch_keeps k h (show execBpl off s = _ from e)
  | oraIzy zp =>
    exact execRead_keeps k oraA_keeps h (show execOraIzy zp s = _ from e)
  | jam12 =>
    exact execJam_keeps k h (show execJam12 s = _ from e)
  | sloIzy zp =>
    exact execModify_keeps k aslOp_keeps oraA_keeps h (show execSloIzy zp s = _ from e)
  | nopZpx14 zp =>
    exact execRead_keeps k ignoreByte_keeps h (show execNopZpx14 zp s = _ from e)
  | oraZpx zp =>
    exact execRead_keeps k oraA_keeps h (show execOraZpx zp s = _ from e)
  | aslZpx zp =>
    exact execModify_keeps k aslOp_keeps flagsOfByte_keeps h (show execAslZpx zp s = _ from e)
  | sloZpx zp =>
    exact execModify_keeps k aslOp_keeps oraA_keeps h (show execSloZpx zp s = _ from e)
  | clc =>
    exact finish_keeps k (k.setP _ _ (statusFixed_setFlag _ .c false (by decide) (by decide)) h) (show execClc s = _ from e)
  | oraAby base =>
    exact execRead_keeps k oraA_keeps h (show execOraAby base s = _ from e)
  | nop1A =>
    exact finish_keeps k h (show execNop1A s = _ from e)
  | sloAby base =>
    exact execModify_keeps k aslOp_keeps oraA_keeps h (show execSloAby base s = _ from e)
  | nopAbx1C base =>
    exact execRead_keeps k ignoreByte_keeps h (show execNopAbx1C base s = _ from e)
  | oraAbx base =>
    exact execRead_keeps k oraA_keeps h (show execOraAbx base s = _ from e)
  | aslAbx base =>
    exact execModify_keeps k aslOp_keeps flagsOfByte_keeps h (show execAslAbx base s = _ from e)
  | sloAbx base =>
    exact execModify_keeps k aslOp_keeps oraA_keeps h (show execSloAbx base s = _ from e)
  | jsrAbs addr =>
    exact finish_keeps k (k.setPc _ _ (k.pushWord _ _ h)) (show execJsrAbs addr s = _ from e)
  | andIzx zp =>
    exact execRead_keeps k andA_keeps h (show execAndIzx zp s = _ from e)
  | jam22 =>
    exact execJam_keeps k h (show execJam22 s = _ from e)
  | rlaIzx zp =>
    exact execModify_keeps k rolOp_keeps andA_keeps h (show execRlaIzx zp s = _ from e)
  | bitZp zp =>
    exact execRead_keeps k testBits_keeps h (show execBitZp zp s = _ from e)
  | andZp zp =>
    exact execRead_keeps k andA_keeps h (show execAndZp zp s = _ from e)
  | rolZp zp =>
    exact execModify_keeps k rolOp_keeps flagsOfByte_keeps h (show execRolZp zp s = _ from e)
  | rlaZp zp =>
    exact execModify_keeps k rolOp_keeps andA_keeps h (show execRlaZp zp s = _ from e)
  | plp =>
    exact finish_keeps k (k.setP _ _ (fun _ => statusFixed_pulledStatus _) (k.pull _ h)) (show execPlp s = _ from e)
  | andImm imm =>
    exact finish_keeps k (andA_keeps I k _ _ h) (show execAndImm imm s = _ from e)
  | rolAcc =>
    exact execModifyA_keeps k rolOp_keeps h (show execRolAcc s = _ from e)
  | ancImm2B imm =>
    exact finish_keeps k (ancA_keeps I k _ _ h) (show execAncImm2B imm s = _ from e)
  | bitAbs addr =>
    exact execRead_keeps k testBits_keeps h (show execBitAbs addr s = _ from e)
  | andAbs addr =>
    exact execRead_keeps k andA_keeps h (show execAndAbs addr s = _ from e)
  | rolAbs addr =>
    exact execModify_keeps k rolOp_keeps flagsOfByte_keeps h (show execRolAbs addr s = _ from e)
  | rlaAbs addr =>
    exact execModify_keeps k rolOp_keeps andA_keeps h (show execRlaAbs addr s = _ from e)
  | bmi off =>
    exact execBranch_keeps k h (show execBmi off s = _ from e)
  | andIzy zp =>
    exact execRead_keeps k andA_keeps h (show execAndIzy zp s = _ from e)
  | jam32 =>
    exact execJam_keeps k h (show execJam32 s = _ from e)
  | rlaIzy zp =>
    exact execModify_keeps k rolOp_keeps andA_keeps h (show execRlaIzy zp s = _ from e)
  | nopZpx34 zp =>
    exact execRead_keeps k ignoreByte_keeps h (show execNopZpx34 zp s = _ from e)
  | andZpx zp =>
    exact execRead_keeps k andA_keeps h (show execAndZpx zp s = _ from e)
  | rolZpx zp =>
    exact execModify_keeps k rolOp_keeps flagsOfByte_keeps h (show execRolZpx zp s = _ from e)
  | rlaZpx zp =>
    exact execModify_keeps k rolOp_keeps andA_keeps h (show execRlaZpx zp s = _ from e)
  | sec =>
    exact finish_keeps k (k.setP _ _ (statusFixed_setFlag _ .c true (by decide) (by decide)) h) (show execSec s = _ from e)
  | andAby base =>
    exact execRead_keeps k andA_keeps h (show execAndAby base s = _ from e)
  | nop3A =>
    exact finish_keeps k h (show execNop3A s = _ from e)
  | rlaAby base =>
    exact execModify_keeps k rolOp_keeps andA_keeps h (show execRlaAby base s = _ from e)
  | nopAbx3C base =>
    exact execRead_keeps k ignoreByte_keeps h (show execNopAbx3C base s = _ from e)
  | andAbx base =>
    exact execRead_keeps k andA_keeps h (show execAndAbx base s = _ from e)
  | rolAbx base =>
    exact execModify_keeps k rolOp_keeps flagsOfByte_keeps h (show execRolAbx base s = _ from e)
  | rlaAbx base =>
    exact execModify_keeps k rolOp_keeps andA_keeps h (show execRlaAbx base s = _ from e)
  | rti =>
    exact finish_keeps k (interruptReturn_keeps k h) (show execRti s = _ from e)
  | eorIzx zp =>
    exact execRead_keeps k eorA_keeps h (show execEorIzx zp s = _ from e)
  | jam42 =>
    exact execJam_keeps k h (show execJam42 s = _ from e)
  | sreIzx zp =>
    exact execModify_keeps k lsrOp_keeps eorA_keeps h (show execSreIzx zp s = _ from e)
  | nopZp44 zp =>
    exact execRead_keeps k ignoreByte_keeps h (show execNopZp44 zp s = _ from e)
  | eorZp zp =>
    exact execRead_keeps k eorA_keeps h (show execEorZp zp s = _ from e)
  | lsrZp zp =>
    exact execModify_keeps k lsrOp_keeps flagsOfByte_keeps h (show execLsrZp zp s = _ from e)
  | sreZp zp =>
    exact execModify_keeps k lsrOp_keeps eorA_keeps h (show execSreZp zp s = _ from e)
  | pha =>
    exact finish_keeps k (k.push _ _ h) (show execPha s = _ from e)
  | eorImm imm =>
    exact finish_keeps k (eorA_keeps I k _ _ h) (show execEorImm imm s = _ from e)
  | lsrAcc =>
    exact execModifyA_keeps k lsrOp_keeps h (show execLsrAcc s = _ from e)
  | alrImm imm =>
    exact finish_keeps k (alrA_keeps I k _ _ h) (show execAlrImm imm s = _ from e)
  | jmpAbs addr =>
    exact finish_keeps k (k.setPc _ _ h) (show execJmpAbs addr s = _ from e)
  | eorAbs addr =>
    exact execRead_keeps k eorA_keeps h (show execEorAbs addr s = _ from e)
  | lsrAbs addr =>
    exact execModify_keeps k lsrOp_keeps flagsOfByte_keeps h (show execLsrAbs addr s = _ from e)
  | sreAbs addr =>
    exact execModify_keeps k lsrOp_keeps eorA_keeps h (show execSreAbs addr s = _ from e)
  | bvc off =>
    exact execBranch_keeps k h (show execBvc off s = _ from e)
  | eorIzy zp =>
    exact execRead_keeps k eorA_keeps h (show execEorIzy zp s = _ from e)
  | jam52 =>
    exact execJam_keeps k h (show execJam52 s = _ from e)
  | sreIzy zp =>
    exact execModify_keeps k lsrOp_keeps eorA_keeps h (show execSreIzy zp s = _ from e)
  | nopZpx54 zp =>
    exact execRead_keeps k ignoreByte_keeps h (show execNopZpx54 zp s = _ from e)
  | eorZpx zp =>
    exact execRead_keeps k eorA_keeps h (show execEorZpx zp s = _ from e)
  | lsrZpx zp =>
    exact execModify_keeps k lsrOp_keeps flagsOfByte_keeps h (show execLsrZpx zp s = _ from e)
  | sreZpx zp =>
    exact execModify_keeps k lsrOp_keeps eorA_keeps h (show execSreZpx zp s = _ from e)
  | cli =>
    exact finish_keeps k (k.setP _ _ (statusFixed_setFlag _ .i false (by decide) (by decide)) h) (show execCli s = _ from e)
  | eorAby base =>
    exact execRead_keeps k eorA_keeps h (show execEorAby base s = _ from e)
  | nop5A =>
    exact finish_keeps k h (show execNop5A s = _ from e)
  | sreAby base =>
    exact execModify_keeps k lsrOp_keeps eorA_keeps h (show execSreAby base s = _ from e)
  | nopAbx5C base =>
    exact execRead_keeps k ignoreByte_keeps h (show execNopAbx5C base s = _ from e)
  | eorAbx base =>
    exact execRead_keeps k eorA_keeps h (show execEorAbx base s = _ from e)
  | lsrAbx base =>
    exact execModify_keeps k lsrOp_keeps flagsOfByte_keeps h (show execLsrAbx base s = _ from e)
  | sreAbx base =>
    exact execModify_keeps k lsrOp_keeps eorA_keeps h (show execSreAbx base s = _ from e)
  | rts =>
    exact finish_keeps k (k.setPc _ _ (k.pullWord _ h)) (show execRts s = _ from e)
  | adcIzx zp =>
    exact execRead_keeps k adcA_keeps h (show execAdcIzx zp s = _ from e)
  | jam62 =>
    exact execJam_keeps k h (show execJam62 s = _ from e)
  | rraIzx zp =>
    exact execModify_keeps k rorOp_keeps adcA_keeps h (show execRraIzx zp s = _ from e)
  | nopZp64 zp =>
    exact execRead_keeps k ignoreByte_keeps h (show execNopZp64 zp s = _ from e)
  | adcZp zp =>
    exact execRead_keeps k adcA_keeps h (show execAdcZp zp s = _ from e)
  | rorZp zp =>
    exact execModify_keeps k rorOp_keeps flagsOfByte_keeps h (show execRorZp zp s = _ from e)
  | rraZp zp =>
    exact execModify_keeps k rorOp_keeps adcA_keeps h (show execRraZp zp s = _ from e)
  | pla =>
    exact finish_keeps k (loadA_keeps I k _ _ (k.pull _ h)) (show execPla s = _ from e)
  | adcImm imm =>
    exact finish_keeps k (adcA_keeps I k _ _ h) (show execAdcImm imm s = _ from e)
  | rorAcc =>
    exact execModifyA_keeps k rorOp_keeps h (show execRorAcc s = _ from e)
  | arrImm imm =>
    exact finish_keeps k (arrA_keeps I k _ _ h) (show execArrImm imm s = _ from e)
  | jmpInd ptr =>
    exact finish_keeps k (k.setPc _ _ (k.readPair _ _ _ h)) (show execJmpInd ptr s = _ from e)
  | adcAbs addr =>
    exact execRead_keeps k adcA_keeps h (show execAdcAbs addr s = _ from e)
  | rorAbs addr =>
    exact execModify_keeps k rorOp_keeps flagsOfByte_keeps h (show execRorAbs addr s = _ from e)
  | rraAbs addr =>
    exact execModify_keeps k rorOp_keeps adcA_keeps h (show execRraAbs addr s = _ from e)
  | bvs off =>
    exact execBranch_keeps k h (show execBvs off s = _ from e)
  | adcIzy zp =>
    exact execRead_keeps k adcA_keeps h (show execAdcIzy zp s = _ from e)
  | jam72 =>
    exact execJam_keeps k h (show execJam72 s = _ from e)
  | rraIzy zp =>
    exact execModify_keeps k rorOp_keeps adcA_keeps h (show execRraIzy zp s = _ from e)
  | nopZpx74 zp =>
    exact execRead_keeps k ignoreByte_keeps h (show execNopZpx74 zp s = _ from e)
  | adcZpx zp =>
    exact execRead_keeps k adcA_keeps h (show execAdcZpx zp s = _ from e)
  | rorZpx zp =>
    exact execModify_keeps k rorOp_keeps flagsOfByte_keeps h (show execRorZpx zp s = _ from e)
  | rraZpx zp =>
    exact execModify_keeps k rorOp_keeps adcA_keeps h (show execRraZpx zp s = _ from e)
  | sei =>
    exact finish_keeps k (k.setP _ _ (statusFixed_setFlag _ .i true (by decide) (by decide)) h) (show execSei s = _ from e)
  | adcAby base =>
    exact execRead_keeps k adcA_keeps h (show execAdcAby base s = _ from e)
  | nop7A =>
    exact finish_keeps k h (show execNop7A s = _ from e)
  | rraAby base =>
    exact execModify_keeps k rorOp_keeps adcA_keeps h (show execRraAby base s = _ from e)
  | nopAbx7C base =>
    exact execRead_keeps k ignoreByte_keeps h (show execNopAbx7C base s = _ from e)
  | adcAbx base =>
    exact execRead_keeps k adcA_keeps h (show execAdcAbx base s = _ from e)
  | rorAbx base =>
    exact execModify_keeps k rorOp_keeps flagsOfByte_keeps h (show execRorAbx base s = _ from e)
  | rraAbx base =>
    exact execModify_keeps k rorOp_keeps adcA_keeps h (show execRraAbx base s = _ from e)
  | nopImm80 imm =>
    exact finish_keeps k h (show execNopImm80 imm s = _ from e)
  | staIzx zp =>
    exact execStore_keeps k h (show execStaIzx zp s = _ from e)
  | nopImm82 imm =>
    exact finish_keeps k h (show execNopImm82 imm s = _ from e)
  | saxIzx zp =>
    exact execStore_keeps k h (show execSaxIzx zp s = _ from e)
  | styZp zp =>
    exact execStore_keeps k h (show execStyZp zp s = _ from e)
  | staZp zp =>
    exact execStore_keeps k h (show execStaZp zp s = _ from e)
  | stxZp zp =>
    exact execStore_keeps k h (show execStxZp zp s = _ from e)
  | saxZp zp =>
    exact execStore_keeps k h (show execSaxZp zp s = _ from e)
  | dey =>
    exact finish_keeps k (loadY_keeps I k _ _ h) (show execDey s = _ from e)
  | nopImm89 imm =>
    exact finish_keeps k h (show execNopImm89 imm s = _ from e)
  | txa =>
    exact finish_keeps k (loadA_keeps I k _ _ h) (show execTxa s = _ from e)
  | xaaImm imm =>
    exact finish_keeps k (xaaA_keeps I k _ _ h) (show execXaaImm imm s = _ from e)
  | styAbs addr =>
    exact execStore_keeps k h (show execStyAbs addr s = _ from e)
  | staAbs addr =>
    exact execStore_keeps k h (show execStaAbs addr s = _ from e)
  | stxAbs addr =>
    exact execStore_keeps k h (show execStxAbs addr s = _ from e)
  | saxAbs addr =>
    exact execStore_keeps k h (show execSaxAbs addr s = _ from e)
  | bcc off =>
    exact execBranch_keeps k h (show execBcc off s = _ from e)
  | staIzy zp =>
    exact execStore_keeps k h (show execStaIzy zp s = _ from e)
  | jam92 =>
    exact execJam_keeps k h (show execJam92 s = _ from e)
  | ahxIzy zp =>
    exact execHighStore_keeps k h (show execAhxIzy zp s = _ from e)
  | styZpx zp =>
    exact execStore_keeps k h (show execStyZpx zp s = _ from e)
  | staZpx zp =>
    exact execStore_keeps k h (show execStaZpx zp s = _ from e)
  | stxZpy zp =>
    exact execStore_keeps k h (show execStxZpy zp s = _ from e)
  | saxZpy zp =>
    exact execStore_keeps k h (show execSaxZpy zp s = _ from e)
  | tya =>
    exact finish_keeps k (loadA_keeps I k _ _ h) (show execTya s = _ from e)
  | staAby base =>
    exact execStore_keeps k h (show execStaAby base s = _ from e)
  | txs =>
    exact finish_keeps k (k.setSp _ _ h) (show execTxs s = _ from e)
  | tasAby base =>
    exact execHighStore_keeps k (k.setSp _ _ h) (show execTasAby base s = _ from e)
  | shyAbx base =>
    exact execHighStore_keeps k h (show execShyAbx base s = _ from e)
  | staAbx base =>
    exact execStore_keeps k h (show execStaAbx base s = _ from e)
  | shxAby base =>
    exact execHighStore_keeps k h (show execShxAby base s = _ from e)
  | ahxAby base =>
    exact execHighStore_keeps k h (show execAhxAby base s = _ from e)
  | ldyImm imm =>
    exact finish_keeps k (loadY_keeps I k _ _ h) (show execLdyImm imm s = _ from e)
  | ldaIzx zp =>
    exact execRead_keeps k loadA_keeps h (show execLdaIzx zp s = _ from e)
  | ldxImm imm =>
    exact finish_keeps k (loadX_keeps I k _ _ h) (show execLdxImm imm s = _ from e)
  | laxIzx zp =>
    exact execRead_keeps k loadAX_keeps h (show execLaxIzx zp s = _ from e)
  | ldyZp zp =>
    exact execRead_keeps k loadY_keeps h (show execLdyZp zp s = _ from e)
  | ldaZp zp =>
    exact execRead_keeps k loadA_keeps h (show execLdaZp zp s = _ from e)
  | ldxZp zp =>
    exact execRead_keeps k loadX_keeps h (show execLdxZp zp s = _ from e)
  | laxZp zp =>
    exact execRead_keeps k loadAX_keeps h (show execLaxZp zp s = _ from e)
  | tay =>
    exact finish_keeps k (loadY_keeps I k _ _ h) (show execTay s = _ from e)
  | ldaImm imm =>
    exact finish_keeps k (loadA_keeps I k _ _ h) (show execLdaImm imm s = _ from e)
  | tax =>
    exact finish_keeps k (loadX_keeps I k _ _ h) (show execTax s = _ from e)
  | lxaImm imm =>
    exact finish_keeps k (lxaAX_keeps I k _ _ h) (show execLxaImm imm s = _ from e)
  | ldyAbs addr =>
    exact execRead_keeps k loadY_keeps h (show execLdyAbs addr s = _ from e)
  | ldaAbs addr =>
    exact execRead_keeps k loadA_keeps h (show execLdaAbs addr s = _ from e)
  | ldxAbs addr =>
    exact execRead_keeps k loadX_keeps h (show execLdxAbs addr s = _ from e)
  | laxAbs addr =>
    exact execRead_keeps k loadAX_keeps h (show execLaxAbs addr s = _ from e)
  | bcs off =>
    exact execBranch_keeps k h (show execBcs off s = _ from e)
  | ldaIzy zp =>
    exact execRead_keeps k loadA_keeps h (show execLdaIzy zp s = _ from e)
  | jamB2 =>
    exact execJam_keeps k h (show execJamB2 s = _ from e)
  | laxIzy zp =>
    exact execRead_keeps k loadAX_keeps h (show execLaxIzy zp s = _ from e)
  | ldyZpx zp =>
    exact execRead_keeps k loadY_keeps h (show execLdyZpx zp s = _ from e)
  | ldaZpx zp =>
    exact execRead_keeps k loadA_keeps h (show execLdaZpx zp s = _ from e)
  | ldxZpy zp =>
    exact execRead_keeps k loadX_keeps h (show execLdxZpy zp s = _ from e)
  | laxZpy zp =>
    exact execRead_keeps k loadAX_keeps h (show execLaxZpy zp s = _ from e)
  | clv =>
    exact finish_keeps k (k.setP _ _ (statusFixed_setFlag _ .v false (by decide) (by decide)) h) (show execClv s = _ from e)
  | ldaAby base =>
    exact execRead_keeps k loadA_keeps h (show execLdaAby base s = _ from e)
  | tsx =>
    exact finish_keeps k (loadX_keeps I k _ _ h) (show execTsx s = _ from e)
  | larAby base =>
    exact execRead_keeps k loadAXSp_keeps h (show execLarAby base s = _ from e)
  | ldyAbx base =>
    exact execRead_keeps k loadY_keeps h (show execLdyAbx base s = _ from e)
  | ldaAbx base =>
    exact execRead_keeps k loadA_keeps h (show execLdaAbx base s = _ from e)
  | ldxAby base =>
    exact execRead_keeps k loadX_keeps h (show execLdxAby base s = _ from e)
  | laxAby base =>
    exact execRead_keeps k loadAX_keeps h (show execLaxAby base s = _ from e)
  | cpyImm imm =>
    exact finish_keeps k (compareY_keeps I k _ _ h) (show execCpyImm imm s = _ from e)
  | cmpIzx zp =>
    exact execRead_keeps k compareA_keeps h (show execCmpIzx zp s = _ from e)
  | nopImmC2 imm =>
    exact finish_keeps k h (show execNopImmC2 imm s = _ from e)
  | dcpIzx zp =>
    exact execModify_keeps k decOp_keeps compareA_keeps h (show execDcpIzx zp s = _ from e)
  | cpyZp zp =>
    exact execRead_keeps k compareY_keeps h (show execCpyZp zp s = _ from e)
  | cmpZp zp =>
    exact execRead_keeps k compareA_keeps h (show execCmpZp zp s = _ from e)
  | decZp zp =>
    exact execModify_keeps k decOp_keeps flagsOfByte_keeps h (show execDecZp zp s = _ from e)
  | dcpZp zp =>
    exact execModify_keeps k decOp_keeps compareA_keeps h (show execDcpZp zp s = _ from e)
  | iny =>
    exact finish_keeps k (loadY_keeps I k _ _ h) (show execIny s = _ from e)
  | cmpImm imm =>
    exact finish_keeps k (compareA_keeps I k _ _ h) (show execCmpImm imm s = _ from e)
  | dex =>
    exact finish_keeps k (loadX_keeps I k _ _ h) (show execDex s = _ from e)
  | axsImm imm =>
    exact finish_keeps k (axsX_keeps I k _ _ h) (show execAxsImm imm s = _ from e)
  | cpyAbs addr =>
    exact execRead_keeps k compareY_keeps h (show execCpyAbs addr s = _ from e)
  | cmpAbs addr =>
    exact execRead_keeps k compareA_keeps h (show execCmpAbs addr s = _ from e)
  | decAbs addr =>
    exact execModify_keeps k decOp_keeps flagsOfByte_keeps h (show execDecAbs addr s = _ from e)
  | dcpAbs addr =>
    exact execModify_keeps k decOp_keeps compareA_keeps h (show execDcpAbs addr s = _ from e)
  | bne off =>
    exact execBranch_keeps k h (show execBne off s = _ from e)
  | cmpIzy zp =>
    exact execRead_keeps k compareA_keeps h (show execCmpIzy zp s = _ from e)
  | jamD2 =>
    exact execJam_keeps k h (show execJamD2 s = _ from e)
  | dcpIzy zp =>
    exact execModify_keeps k decOp_keeps compareA_keeps h (show execDcpIzy zp s = _ from e)
  | nopZpxD4 zp =>
    exact execRead_keeps k ignoreByte_keeps h (show execNopZpxD4 zp s = _ from e)
  | cmpZpx zp =>
    exact execRead_keeps k compareA_keeps h (show execCmpZpx zp s = _ from e)
  | decZpx zp =>
    exact execModify_keeps k decOp_keeps flagsOfByte_keeps h (show execDecZpx zp s = _ from e)
  | dcpZpx zp =>
    exact execModify_keeps k decOp_keeps compareA_keeps h (show execDcpZpx zp s = _ from e)
  | cld =>
    exact finish_keeps k (k.setP _ _ (statusFixed_setFlag _ .d false (by decide) (by decide)) h) (show execCld s = _ from e)
  | cmpAby base =>
    exact execRead_keeps k compareA_keeps h (show execCmpAby base s = _ from e)
  | nopDA =>
    exact finish_keeps k h (show execNopDA s = _ from e)
  | dcpAby base =>
    exact execModify_keeps k decOp_keeps compareA_keeps h (show execDcpAby base s = _ from e)
  | nopAbxDC base =>
    exact execRead_keeps k ignoreByte_keeps h (show execNopAbxDC base s = _ from e)
  | cmpAbx base =>
    exact execRead_keeps k compareA_keeps h (show execCmpAbx base s = _ from e)
  | decAbx base =>
    exact execModify_keeps k decOp_keeps flagsOfByte_keeps h (show execDecAbx base s = _ from e)
  | dcpAbx base =>
    exact execModify_keeps k decOp_keeps compareA_keeps h (show execDcpAbx base s = _ from e)
  | cpxImm imm =>
    exact finish_keeps k (compareX_keeps I k _ _ h) (show execCpxImm imm s = _ from e)
  | sbcIzx zp =>
    exact execRead_keeps k sbcA_keeps h (show execSbcIzx zp s = _ from e)
  | nopImmE2 imm =>
    exact finish_keeps k h (show execNopImmE2 imm s = _ from e)
  | iscIzx zp =>
    exact execModify_keeps k incOp_keeps sbcA_keeps h (show execIscIzx zp s = _ from e)
  | cpxZp zp =>
    exact execRead_keeps k compareX_keeps h (show execCpxZp zp s = _ from e)
  | sbcZp zp =>
    exact execRead_keeps k sbcA_keeps h (show execSbcZp zp s = _ from e)
  | incZp zp =>
    exact execModify_keeps k incOp_keeps flagsOfByte_keeps h (show execIncZp zp s = _ from e)
  | iscZp zp =>
    exact execModify_keeps k incOp_keeps sbcA_keeps h (show execIscZp zp s = _ from e)
  | inx =>
    exact finish_keeps k (loadX_keeps I k _ _ h) (show execInx s = _ from e)
  | sbcImm imm =>
    exact finish_keeps k (sbcA_keeps I k _ _ h) (show execSbcImm imm s = _ from e)
  | nop =>
    exact finish_keeps k h (show execNop s = _ from e)
  | sbcImmEB imm =>
    exact finish_keeps k (sbcA_keeps I k _ _ h) (show execSbcImmEB imm s = _ from e)
  | cpxAbs addr =>
    exact execRead_keeps k compareX_keeps h (show execCpxAbs addr s = _ from e)
  | sbcAbs addr =>
    exact execRead_keeps k sbcA_keeps h (show execSbcAbs addr s = _ from e)
  | incAbs addr =>
    exact execModify_keeps k incOp_keeps flagsOfByte_keeps h (show execIncAbs addr s = _ from e)
  | iscAbs addr =>
    exact execModify_keeps k incOp_keeps sbcA_keeps h (show execIscAbs addr s = _ from e)
  | beq off =>
    exact execBranch_keeps k h (show execBeq off s = _ from e)
  | sbcIzy zp =>
    exact execRead_keeps k sbcA_keeps h (show execSbcIzy zp s = _ from e)
  | jamF2 =>
    exact execJam_keeps k h (show execJamF2 s = _ from e)
  | iscIzy zp =>
    exact execModify_keeps k incOp_keeps sbcA_keeps h (show execIscIzy zp s = _ from e)
  | nopZpxF4 zp =>
    exact execRead_keeps k ignoreByte_keeps h (show execNopZpxF4 zp s = _ from e)
  | sbcZpx zp =>
    exact execRead_keeps k sbcA_keeps h (show execSbcZpx zp s = _ from e)
  | incZpx zp =>
    exact execModify_keeps k incOp_keeps flagsOfByte_keeps h (show execIncZpx zp s = _ from e)
  | iscZpx zp =>
    exact execModify_keeps k incOp_keeps sbcA_keeps h (show execIscZpx zp s = _ from e)
  | sed =>
    exact finish_keeps k (k.setP _ _ (statusFixed_setFlag _ .d true (by decide) (by decide)) h) (show execSed s = _ from e)
  | sbcAby base =>
    exact execRead_keeps k sbcA_keeps h (show execSbcAby base s = _ from e)
  | nopFA =>
    exact finish_keeps k h (show execNopFA s = _ from e)
  | iscAby base =>
    exact execModify_keeps k incOp_keeps sbcA_keeps h (show execIscAby base s = _ from e)
  | nopAbxFC base =>
    exact execRead_keeps k ignoreByte_keeps h (show execNopAbxFC base s = _ from e)
  | sbcAbx base =>
    exact execRead_keeps k sbcA_keeps h (show execSbcAbx base s = _ from e)
  | incAbx base =>
    exact execModify_keeps k incOp_keeps flagsOfByte_keeps h (show execIncAbx base s = _ from e)
  | iscAbx base =>
    exact execModify_keeps k incOp_keeps sbcA_keeps h (show execIscAbx base s = _ from e)

/-! ### Outcomes -/

theorem finish_completes (s : State) (c : Nat) : ∃ t, finish s c = .next t := ⟨_, rfl⟩

theorem execRead_completes (o : MemOperand) (c : Nat) (page : Bool) (op : State → Byte → State) (s : State) :
    ∃ t, execRead o c page op s = .next t := finish_completes _ _

theorem execStore_completes (o : MemOperand) (c : Nat) (value : Cpu → Byte) (s : State) :
    ∃ t, execStore o c value s = .next t := finish_completes _ _

theorem execModify_completes (o : MemOperand) (c : Nat) (modify : Byte → Byte → Byte × Byte)
    (after : State → Byte → State) (s : State) : ∃ t, execModify o c modify after s = .next t := finish_completes _ _

theorem execModifyA_completes (c : Nat) (modify : Byte → Byte → Byte × Byte) (s : State) :
    ∃ t, execModifyA c modify s = .next t := finish_completes _ _

theorem execBranch_completes (off : Byte) (f : Flag) (v : Bool) (s : State) :
    ∃ t, execBranch off f v s = .next t := by
  unfold execBranch
  dsimp only
  split <;> exact ⟨_, rfl⟩

/-- The opcodes of the twelve JAM instructions (R172). -/
def jamOpcodes : List Byte :=
  [0x02#8, 0x12#8, 0x22#8, 0x32#8, 0x42#8, 0x52#8, 0x62#8, 0x72#8, 0x92#8, 0xB2#8, 0xD2#8, 0xF2#8]

/-- The opcodes of the five unstable high-byte stores (R166). -/
def highStoreOpcodes : List Byte := [0x93#8, 0x9B#8, 0x9C#8, 0x9E#8, 0x9F#8]

theorem execJam_outcome (op : Byte) (s : State) :
    (s.params.jamPolicy = .halt ∧ ∃ t, execJam op s = .next t) ∨
    (s.params.jamPolicy = .fault ∧ execJam op s = .fault (.jam op)) := by
  unfold execJam
  cases s.params.jamPolicy
  · exact .inl ⟨rfl, _, rfl⟩
  · exact .inr ⟨rfl, rfl⟩

theorem execHighStore_outcome (op : Byte) (o : MemOperand) (c : Nat) (before : State → State) (reg : Cpu → Byte)
    (s : State) :
    (s.params.shPolicy = .formula ∧ ∃ t, execHighStore op o c before reg s = .next t) ∨
    (s.params.shPolicy = .refuse ∧ execHighStore op o c before reg s = .refused (.unstableStore op)) := by
  unfold execHighStore
  cases s.params.shPolicy
  · exact .inl ⟨rfl, _, rfl⟩
  · exact .inr ⟨rfl, rfl⟩

/-- What an instruction answers: a next state, or, under the two policies that end a run, the stop of a JAM opcode or
of an unstable high-byte store (R166, R172). -/
theorem exec_outcome (i : Instr) (s : State) :
    (∃ t, exec i s = .next t) ∨
    (∃ op ∈ jamOpcodes, (s.params.jamPolicy = .halt ∧ ∃ t, exec i s = .next t) ∨
      (s.params.jamPolicy = .fault ∧ exec i s = .fault (.jam op))) ∨
    (∃ op ∈ highStoreOpcodes, (s.params.shPolicy = .formula ∧ ∃ t, exec i s = .next t) ∨
      (s.params.shPolicy = .refuse ∧ exec i s = .refused (.unstableStore op))) := by
  cases i with
  | brk => exact .inl (show ∃ t, execBrk s = .next t from ⟨_, rfl⟩)
  | oraIzx zp => exact .inl (show ∃ t, execOraIzx zp s = .next t from execRead_completes _ _ _ _ s)
  | jam02 => exact .inr (.inl ⟨0x02#8, by decide, execJam_outcome 0x02#8 s⟩)
  | sloIzx zp => exact .inl (show ∃ t, execSloIzx zp s = .next t from execModify_completes _ _ _ _ s)
  | nopZp04 zp => exact .inl (show ∃ t, execNopZp04 zp s = .next t from execRead_completes _ _ _ _ s)
  | oraZp zp => exact .inl (show ∃ t, execOraZp zp s = .next t from execRead_completes _ _ _ _ s)
  | aslZp zp => exact .inl (show ∃ t, execAslZp zp s = .next t from execModify_completes _ _ _ _ s)
  | sloZp zp => exact .inl (show ∃ t, execSloZp zp s = .next t from execModify_completes _ _ _ _ s)
  | php => exact .inl (show ∃ t, execPhp s = .next t from finish_completes _ _)
  | oraImm imm => exact .inl (show ∃ t, execOraImm imm s = .next t from finish_completes _ _)
  | aslAcc => exact .inl (show ∃ t, execAslAcc s = .next t from execModifyA_completes _ _ s)
  | ancImm0B imm => exact .inl (show ∃ t, execAncImm0B imm s = .next t from finish_completes _ _)
  | nopAbs addr => exact .inl (show ∃ t, execNopAbs addr s = .next t from execRead_completes _ _ _ _ s)
  | oraAbs addr => exact .inl (show ∃ t, execOraAbs addr s = .next t from execRead_completes _ _ _ _ s)
  | aslAbs addr => exact .inl (show ∃ t, execAslAbs addr s = .next t from execModify_completes _ _ _ _ s)
  | sloAbs addr => exact .inl (show ∃ t, execSloAbs addr s = .next t from execModify_completes _ _ _ _ s)
  | bpl off => exact .inl (show ∃ t, execBpl off s = .next t from execBranch_completes _ _ _ s)
  | oraIzy zp => exact .inl (show ∃ t, execOraIzy zp s = .next t from execRead_completes _ _ _ _ s)
  | jam12 => exact .inr (.inl ⟨0x12#8, by decide, execJam_outcome 0x12#8 s⟩)
  | sloIzy zp => exact .inl (show ∃ t, execSloIzy zp s = .next t from execModify_completes _ _ _ _ s)
  | nopZpx14 zp => exact .inl (show ∃ t, execNopZpx14 zp s = .next t from execRead_completes _ _ _ _ s)
  | oraZpx zp => exact .inl (show ∃ t, execOraZpx zp s = .next t from execRead_completes _ _ _ _ s)
  | aslZpx zp => exact .inl (show ∃ t, execAslZpx zp s = .next t from execModify_completes _ _ _ _ s)
  | sloZpx zp => exact .inl (show ∃ t, execSloZpx zp s = .next t from execModify_completes _ _ _ _ s)
  | clc => exact .inl (show ∃ t, execClc s = .next t from finish_completes _ _)
  | oraAby base => exact .inl (show ∃ t, execOraAby base s = .next t from execRead_completes _ _ _ _ s)
  | nop1A => exact .inl (show ∃ t, execNop1A s = .next t from finish_completes _ _)
  | sloAby base => exact .inl (show ∃ t, execSloAby base s = .next t from execModify_completes _ _ _ _ s)
  | nopAbx1C base => exact .inl (show ∃ t, execNopAbx1C base s = .next t from execRead_completes _ _ _ _ s)
  | oraAbx base => exact .inl (show ∃ t, execOraAbx base s = .next t from execRead_completes _ _ _ _ s)
  | aslAbx base => exact .inl (show ∃ t, execAslAbx base s = .next t from execModify_completes _ _ _ _ s)
  | sloAbx base => exact .inl (show ∃ t, execSloAbx base s = .next t from execModify_completes _ _ _ _ s)
  | jsrAbs addr => exact .inl (show ∃ t, execJsrAbs addr s = .next t from finish_completes _ _)
  | andIzx zp => exact .inl (show ∃ t, execAndIzx zp s = .next t from execRead_completes _ _ _ _ s)
  | jam22 => exact .inr (.inl ⟨0x22#8, by decide, execJam_outcome 0x22#8 s⟩)
  | rlaIzx zp => exact .inl (show ∃ t, execRlaIzx zp s = .next t from execModify_completes _ _ _ _ s)
  | bitZp zp => exact .inl (show ∃ t, execBitZp zp s = .next t from execRead_completes _ _ _ _ s)
  | andZp zp => exact .inl (show ∃ t, execAndZp zp s = .next t from execRead_completes _ _ _ _ s)
  | rolZp zp => exact .inl (show ∃ t, execRolZp zp s = .next t from execModify_completes _ _ _ _ s)
  | rlaZp zp => exact .inl (show ∃ t, execRlaZp zp s = .next t from execModify_completes _ _ _ _ s)
  | plp => exact .inl (show ∃ t, execPlp s = .next t from finish_completes _ _)
  | andImm imm => exact .inl (show ∃ t, execAndImm imm s = .next t from finish_completes _ _)
  | rolAcc => exact .inl (show ∃ t, execRolAcc s = .next t from execModifyA_completes _ _ s)
  | ancImm2B imm => exact .inl (show ∃ t, execAncImm2B imm s = .next t from finish_completes _ _)
  | bitAbs addr => exact .inl (show ∃ t, execBitAbs addr s = .next t from execRead_completes _ _ _ _ s)
  | andAbs addr => exact .inl (show ∃ t, execAndAbs addr s = .next t from execRead_completes _ _ _ _ s)
  | rolAbs addr => exact .inl (show ∃ t, execRolAbs addr s = .next t from execModify_completes _ _ _ _ s)
  | rlaAbs addr => exact .inl (show ∃ t, execRlaAbs addr s = .next t from execModify_completes _ _ _ _ s)
  | bmi off => exact .inl (show ∃ t, execBmi off s = .next t from execBranch_completes _ _ _ s)
  | andIzy zp => exact .inl (show ∃ t, execAndIzy zp s = .next t from execRead_completes _ _ _ _ s)
  | jam32 => exact .inr (.inl ⟨0x32#8, by decide, execJam_outcome 0x32#8 s⟩)
  | rlaIzy zp => exact .inl (show ∃ t, execRlaIzy zp s = .next t from execModify_completes _ _ _ _ s)
  | nopZpx34 zp => exact .inl (show ∃ t, execNopZpx34 zp s = .next t from execRead_completes _ _ _ _ s)
  | andZpx zp => exact .inl (show ∃ t, execAndZpx zp s = .next t from execRead_completes _ _ _ _ s)
  | rolZpx zp => exact .inl (show ∃ t, execRolZpx zp s = .next t from execModify_completes _ _ _ _ s)
  | rlaZpx zp => exact .inl (show ∃ t, execRlaZpx zp s = .next t from execModify_completes _ _ _ _ s)
  | sec => exact .inl (show ∃ t, execSec s = .next t from finish_completes _ _)
  | andAby base => exact .inl (show ∃ t, execAndAby base s = .next t from execRead_completes _ _ _ _ s)
  | nop3A => exact .inl (show ∃ t, execNop3A s = .next t from finish_completes _ _)
  | rlaAby base => exact .inl (show ∃ t, execRlaAby base s = .next t from execModify_completes _ _ _ _ s)
  | nopAbx3C base => exact .inl (show ∃ t, execNopAbx3C base s = .next t from execRead_completes _ _ _ _ s)
  | andAbx base => exact .inl (show ∃ t, execAndAbx base s = .next t from execRead_completes _ _ _ _ s)
  | rolAbx base => exact .inl (show ∃ t, execRolAbx base s = .next t from execModify_completes _ _ _ _ s)
  | rlaAbx base => exact .inl (show ∃ t, execRlaAbx base s = .next t from execModify_completes _ _ _ _ s)
  | rti => exact .inl (show ∃ t, execRti s = .next t from finish_completes _ _)
  | eorIzx zp => exact .inl (show ∃ t, execEorIzx zp s = .next t from execRead_completes _ _ _ _ s)
  | jam42 => exact .inr (.inl ⟨0x42#8, by decide, execJam_outcome 0x42#8 s⟩)
  | sreIzx zp => exact .inl (show ∃ t, execSreIzx zp s = .next t from execModify_completes _ _ _ _ s)
  | nopZp44 zp => exact .inl (show ∃ t, execNopZp44 zp s = .next t from execRead_completes _ _ _ _ s)
  | eorZp zp => exact .inl (show ∃ t, execEorZp zp s = .next t from execRead_completes _ _ _ _ s)
  | lsrZp zp => exact .inl (show ∃ t, execLsrZp zp s = .next t from execModify_completes _ _ _ _ s)
  | sreZp zp => exact .inl (show ∃ t, execSreZp zp s = .next t from execModify_completes _ _ _ _ s)
  | pha => exact .inl (show ∃ t, execPha s = .next t from finish_completes _ _)
  | eorImm imm => exact .inl (show ∃ t, execEorImm imm s = .next t from finish_completes _ _)
  | lsrAcc => exact .inl (show ∃ t, execLsrAcc s = .next t from execModifyA_completes _ _ s)
  | alrImm imm => exact .inl (show ∃ t, execAlrImm imm s = .next t from finish_completes _ _)
  | jmpAbs addr => exact .inl (show ∃ t, execJmpAbs addr s = .next t from finish_completes _ _)
  | eorAbs addr => exact .inl (show ∃ t, execEorAbs addr s = .next t from execRead_completes _ _ _ _ s)
  | lsrAbs addr => exact .inl (show ∃ t, execLsrAbs addr s = .next t from execModify_completes _ _ _ _ s)
  | sreAbs addr => exact .inl (show ∃ t, execSreAbs addr s = .next t from execModify_completes _ _ _ _ s)
  | bvc off => exact .inl (show ∃ t, execBvc off s = .next t from execBranch_completes _ _ _ s)
  | eorIzy zp => exact .inl (show ∃ t, execEorIzy zp s = .next t from execRead_completes _ _ _ _ s)
  | jam52 => exact .inr (.inl ⟨0x52#8, by decide, execJam_outcome 0x52#8 s⟩)
  | sreIzy zp => exact .inl (show ∃ t, execSreIzy zp s = .next t from execModify_completes _ _ _ _ s)
  | nopZpx54 zp => exact .inl (show ∃ t, execNopZpx54 zp s = .next t from execRead_completes _ _ _ _ s)
  | eorZpx zp => exact .inl (show ∃ t, execEorZpx zp s = .next t from execRead_completes _ _ _ _ s)
  | lsrZpx zp => exact .inl (show ∃ t, execLsrZpx zp s = .next t from execModify_completes _ _ _ _ s)
  | sreZpx zp => exact .inl (show ∃ t, execSreZpx zp s = .next t from execModify_completes _ _ _ _ s)
  | cli => exact .inl (show ∃ t, execCli s = .next t from finish_completes _ _)
  | eorAby base => exact .inl (show ∃ t, execEorAby base s = .next t from execRead_completes _ _ _ _ s)
  | nop5A => exact .inl (show ∃ t, execNop5A s = .next t from finish_completes _ _)
  | sreAby base => exact .inl (show ∃ t, execSreAby base s = .next t from execModify_completes _ _ _ _ s)
  | nopAbx5C base => exact .inl (show ∃ t, execNopAbx5C base s = .next t from execRead_completes _ _ _ _ s)
  | eorAbx base => exact .inl (show ∃ t, execEorAbx base s = .next t from execRead_completes _ _ _ _ s)
  | lsrAbx base => exact .inl (show ∃ t, execLsrAbx base s = .next t from execModify_completes _ _ _ _ s)
  | sreAbx base => exact .inl (show ∃ t, execSreAbx base s = .next t from execModify_completes _ _ _ _ s)
  | rts => exact .inl (show ∃ t, execRts s = .next t from finish_completes _ _)
  | adcIzx zp => exact .inl (show ∃ t, execAdcIzx zp s = .next t from execRead_completes _ _ _ _ s)
  | jam62 => exact .inr (.inl ⟨0x62#8, by decide, execJam_outcome 0x62#8 s⟩)
  | rraIzx zp => exact .inl (show ∃ t, execRraIzx zp s = .next t from execModify_completes _ _ _ _ s)
  | nopZp64 zp => exact .inl (show ∃ t, execNopZp64 zp s = .next t from execRead_completes _ _ _ _ s)
  | adcZp zp => exact .inl (show ∃ t, execAdcZp zp s = .next t from execRead_completes _ _ _ _ s)
  | rorZp zp => exact .inl (show ∃ t, execRorZp zp s = .next t from execModify_completes _ _ _ _ s)
  | rraZp zp => exact .inl (show ∃ t, execRraZp zp s = .next t from execModify_completes _ _ _ _ s)
  | pla => exact .inl (show ∃ t, execPla s = .next t from finish_completes _ _)
  | adcImm imm => exact .inl (show ∃ t, execAdcImm imm s = .next t from finish_completes _ _)
  | rorAcc => exact .inl (show ∃ t, execRorAcc s = .next t from execModifyA_completes _ _ s)
  | arrImm imm => exact .inl (show ∃ t, execArrImm imm s = .next t from finish_completes _ _)
  | jmpInd ptr => exact .inl (show ∃ t, execJmpInd ptr s = .next t from finish_completes _ _)
  | adcAbs addr => exact .inl (show ∃ t, execAdcAbs addr s = .next t from execRead_completes _ _ _ _ s)
  | rorAbs addr => exact .inl (show ∃ t, execRorAbs addr s = .next t from execModify_completes _ _ _ _ s)
  | rraAbs addr => exact .inl (show ∃ t, execRraAbs addr s = .next t from execModify_completes _ _ _ _ s)
  | bvs off => exact .inl (show ∃ t, execBvs off s = .next t from execBranch_completes _ _ _ s)
  | adcIzy zp => exact .inl (show ∃ t, execAdcIzy zp s = .next t from execRead_completes _ _ _ _ s)
  | jam72 => exact .inr (.inl ⟨0x72#8, by decide, execJam_outcome 0x72#8 s⟩)
  | rraIzy zp => exact .inl (show ∃ t, execRraIzy zp s = .next t from execModify_completes _ _ _ _ s)
  | nopZpx74 zp => exact .inl (show ∃ t, execNopZpx74 zp s = .next t from execRead_completes _ _ _ _ s)
  | adcZpx zp => exact .inl (show ∃ t, execAdcZpx zp s = .next t from execRead_completes _ _ _ _ s)
  | rorZpx zp => exact .inl (show ∃ t, execRorZpx zp s = .next t from execModify_completes _ _ _ _ s)
  | rraZpx zp => exact .inl (show ∃ t, execRraZpx zp s = .next t from execModify_completes _ _ _ _ s)
  | sei => exact .inl (show ∃ t, execSei s = .next t from finish_completes _ _)
  | adcAby base => exact .inl (show ∃ t, execAdcAby base s = .next t from execRead_completes _ _ _ _ s)
  | nop7A => exact .inl (show ∃ t, execNop7A s = .next t from finish_completes _ _)
  | rraAby base => exact .inl (show ∃ t, execRraAby base s = .next t from execModify_completes _ _ _ _ s)
  | nopAbx7C base => exact .inl (show ∃ t, execNopAbx7C base s = .next t from execRead_completes _ _ _ _ s)
  | adcAbx base => exact .inl (show ∃ t, execAdcAbx base s = .next t from execRead_completes _ _ _ _ s)
  | rorAbx base => exact .inl (show ∃ t, execRorAbx base s = .next t from execModify_completes _ _ _ _ s)
  | rraAbx base => exact .inl (show ∃ t, execRraAbx base s = .next t from execModify_completes _ _ _ _ s)
  | nopImm80 imm => exact .inl (show ∃ t, execNopImm80 imm s = .next t from finish_completes _ _)
  | staIzx zp => exact .inl (show ∃ t, execStaIzx zp s = .next t from execStore_completes _ _ _ s)
  | nopImm82 imm => exact .inl (show ∃ t, execNopImm82 imm s = .next t from finish_completes _ _)
  | saxIzx zp => exact .inl (show ∃ t, execSaxIzx zp s = .next t from execStore_completes _ _ _ s)
  | styZp zp => exact .inl (show ∃ t, execStyZp zp s = .next t from execStore_completes _ _ _ s)
  | staZp zp => exact .inl (show ∃ t, execStaZp zp s = .next t from execStore_completes _ _ _ s)
  | stxZp zp => exact .inl (show ∃ t, execStxZp zp s = .next t from execStore_completes _ _ _ s)
  | saxZp zp => exact .inl (show ∃ t, execSaxZp zp s = .next t from execStore_completes _ _ _ s)
  | dey => exact .inl (show ∃ t, execDey s = .next t from finish_completes _ _)
  | nopImm89 imm => exact .inl (show ∃ t, execNopImm89 imm s = .next t from finish_completes _ _)
  | txa => exact .inl (show ∃ t, execTxa s = .next t from finish_completes _ _)
  | xaaImm imm => exact .inl (show ∃ t, execXaaImm imm s = .next t from finish_completes _ _)
  | styAbs addr => exact .inl (show ∃ t, execStyAbs addr s = .next t from execStore_completes _ _ _ s)
  | staAbs addr => exact .inl (show ∃ t, execStaAbs addr s = .next t from execStore_completes _ _ _ s)
  | stxAbs addr => exact .inl (show ∃ t, execStxAbs addr s = .next t from execStore_completes _ _ _ s)
  | saxAbs addr => exact .inl (show ∃ t, execSaxAbs addr s = .next t from execStore_completes _ _ _ s)
  | bcc off => exact .inl (show ∃ t, execBcc off s = .next t from execBranch_completes _ _ _ s)
  | staIzy zp => exact .inl (show ∃ t, execStaIzy zp s = .next t from execStore_completes _ _ _ s)
  | jam92 => exact .inr (.inl ⟨0x92#8, by decide, execJam_outcome 0x92#8 s⟩)
  | ahxIzy zp => exact .inr (.inr ⟨0x93#8, by decide, execHighStore_outcome 0x93#8 (.izy zp) 6 id (fun c => c.a &&& c.x) s⟩)
  | styZpx zp => exact .inl (show ∃ t, execStyZpx zp s = .next t from execStore_completes _ _ _ s)
  | staZpx zp => exact .inl (show ∃ t, execStaZpx zp s = .next t from execStore_completes _ _ _ s)
  | stxZpy zp => exact .inl (show ∃ t, execStxZpy zp s = .next t from execStore_completes _ _ _ s)
  | saxZpy zp => exact .inl (show ∃ t, execSaxZpy zp s = .next t from execStore_completes _ _ _ s)
  | tya => exact .inl (show ∃ t, execTya s = .next t from finish_completes _ _)
  | staAby base => exact .inl (show ∃ t, execStaAby base s = .next t from execStore_completes _ _ _ s)
  | txs => exact .inl (show ∃ t, execTxs s = .next t from finish_completes _ _)
  | tasAby base => exact .inr (.inr ⟨0x9B#8, by decide, execHighStore_outcome 0x9B#8 (.aby base) 5 (fun s => s.setSp (s.cpu.a &&& s.cpu.x)) Cpu.sp s⟩)
  | shyAbx base => exact .inr (.inr ⟨0x9C#8, by decide, execHighStore_outcome 0x9C#8 (.abx base) 5 id Cpu.y s⟩)
  | staAbx base => exact .inl (show ∃ t, execStaAbx base s = .next t from execStore_completes _ _ _ s)
  | shxAby base => exact .inr (.inr ⟨0x9E#8, by decide, execHighStore_outcome 0x9E#8 (.aby base) 5 id Cpu.x s⟩)
  | ahxAby base => exact .inr (.inr ⟨0x9F#8, by decide, execHighStore_outcome 0x9F#8 (.aby base) 5 id (fun c => c.a &&& c.x) s⟩)
  | ldyImm imm => exact .inl (show ∃ t, execLdyImm imm s = .next t from finish_completes _ _)
  | ldaIzx zp => exact .inl (show ∃ t, execLdaIzx zp s = .next t from execRead_completes _ _ _ _ s)
  | ldxImm imm => exact .inl (show ∃ t, execLdxImm imm s = .next t from finish_completes _ _)
  | laxIzx zp => exact .inl (show ∃ t, execLaxIzx zp s = .next t from execRead_completes _ _ _ _ s)
  | ldyZp zp => exact .inl (show ∃ t, execLdyZp zp s = .next t from execRead_completes _ _ _ _ s)
  | ldaZp zp => exact .inl (show ∃ t, execLdaZp zp s = .next t from execRead_completes _ _ _ _ s)
  | ldxZp zp => exact .inl (show ∃ t, execLdxZp zp s = .next t from execRead_completes _ _ _ _ s)
  | laxZp zp => exact .inl (show ∃ t, execLaxZp zp s = .next t from execRead_completes _ _ _ _ s)
  | tay => exact .inl (show ∃ t, execTay s = .next t from finish_completes _ _)
  | ldaImm imm => exact .inl (show ∃ t, execLdaImm imm s = .next t from finish_completes _ _)
  | tax => exact .inl (show ∃ t, execTax s = .next t from finish_completes _ _)
  | lxaImm imm => exact .inl (show ∃ t, execLxaImm imm s = .next t from finish_completes _ _)
  | ldyAbs addr => exact .inl (show ∃ t, execLdyAbs addr s = .next t from execRead_completes _ _ _ _ s)
  | ldaAbs addr => exact .inl (show ∃ t, execLdaAbs addr s = .next t from execRead_completes _ _ _ _ s)
  | ldxAbs addr => exact .inl (show ∃ t, execLdxAbs addr s = .next t from execRead_completes _ _ _ _ s)
  | laxAbs addr => exact .inl (show ∃ t, execLaxAbs addr s = .next t from execRead_completes _ _ _ _ s)
  | bcs off => exact .inl (show ∃ t, execBcs off s = .next t from execBranch_completes _ _ _ s)
  | ldaIzy zp => exact .inl (show ∃ t, execLdaIzy zp s = .next t from execRead_completes _ _ _ _ s)
  | jamB2 => exact .inr (.inl ⟨0xB2#8, by decide, execJam_outcome 0xB2#8 s⟩)
  | laxIzy zp => exact .inl (show ∃ t, execLaxIzy zp s = .next t from execRead_completes _ _ _ _ s)
  | ldyZpx zp => exact .inl (show ∃ t, execLdyZpx zp s = .next t from execRead_completes _ _ _ _ s)
  | ldaZpx zp => exact .inl (show ∃ t, execLdaZpx zp s = .next t from execRead_completes _ _ _ _ s)
  | ldxZpy zp => exact .inl (show ∃ t, execLdxZpy zp s = .next t from execRead_completes _ _ _ _ s)
  | laxZpy zp => exact .inl (show ∃ t, execLaxZpy zp s = .next t from execRead_completes _ _ _ _ s)
  | clv => exact .inl (show ∃ t, execClv s = .next t from finish_completes _ _)
  | ldaAby base => exact .inl (show ∃ t, execLdaAby base s = .next t from execRead_completes _ _ _ _ s)
  | tsx => exact .inl (show ∃ t, execTsx s = .next t from finish_completes _ _)
  | larAby base => exact .inl (show ∃ t, execLarAby base s = .next t from execRead_completes _ _ _ _ s)
  | ldyAbx base => exact .inl (show ∃ t, execLdyAbx base s = .next t from execRead_completes _ _ _ _ s)
  | ldaAbx base => exact .inl (show ∃ t, execLdaAbx base s = .next t from execRead_completes _ _ _ _ s)
  | ldxAby base => exact .inl (show ∃ t, execLdxAby base s = .next t from execRead_completes _ _ _ _ s)
  | laxAby base => exact .inl (show ∃ t, execLaxAby base s = .next t from execRead_completes _ _ _ _ s)
  | cpyImm imm => exact .inl (show ∃ t, execCpyImm imm s = .next t from finish_completes _ _)
  | cmpIzx zp => exact .inl (show ∃ t, execCmpIzx zp s = .next t from execRead_completes _ _ _ _ s)
  | nopImmC2 imm => exact .inl (show ∃ t, execNopImmC2 imm s = .next t from finish_completes _ _)
  | dcpIzx zp => exact .inl (show ∃ t, execDcpIzx zp s = .next t from execModify_completes _ _ _ _ s)
  | cpyZp zp => exact .inl (show ∃ t, execCpyZp zp s = .next t from execRead_completes _ _ _ _ s)
  | cmpZp zp => exact .inl (show ∃ t, execCmpZp zp s = .next t from execRead_completes _ _ _ _ s)
  | decZp zp => exact .inl (show ∃ t, execDecZp zp s = .next t from execModify_completes _ _ _ _ s)
  | dcpZp zp => exact .inl (show ∃ t, execDcpZp zp s = .next t from execModify_completes _ _ _ _ s)
  | iny => exact .inl (show ∃ t, execIny s = .next t from finish_completes _ _)
  | cmpImm imm => exact .inl (show ∃ t, execCmpImm imm s = .next t from finish_completes _ _)
  | dex => exact .inl (show ∃ t, execDex s = .next t from finish_completes _ _)
  | axsImm imm => exact .inl (show ∃ t, execAxsImm imm s = .next t from finish_completes _ _)
  | cpyAbs addr => exact .inl (show ∃ t, execCpyAbs addr s = .next t from execRead_completes _ _ _ _ s)
  | cmpAbs addr => exact .inl (show ∃ t, execCmpAbs addr s = .next t from execRead_completes _ _ _ _ s)
  | decAbs addr => exact .inl (show ∃ t, execDecAbs addr s = .next t from execModify_completes _ _ _ _ s)
  | dcpAbs addr => exact .inl (show ∃ t, execDcpAbs addr s = .next t from execModify_completes _ _ _ _ s)
  | bne off => exact .inl (show ∃ t, execBne off s = .next t from execBranch_completes _ _ _ s)
  | cmpIzy zp => exact .inl (show ∃ t, execCmpIzy zp s = .next t from execRead_completes _ _ _ _ s)
  | jamD2 => exact .inr (.inl ⟨0xD2#8, by decide, execJam_outcome 0xD2#8 s⟩)
  | dcpIzy zp => exact .inl (show ∃ t, execDcpIzy zp s = .next t from execModify_completes _ _ _ _ s)
  | nopZpxD4 zp => exact .inl (show ∃ t, execNopZpxD4 zp s = .next t from execRead_completes _ _ _ _ s)
  | cmpZpx zp => exact .inl (show ∃ t, execCmpZpx zp s = .next t from execRead_completes _ _ _ _ s)
  | decZpx zp => exact .inl (show ∃ t, execDecZpx zp s = .next t from execModify_completes _ _ _ _ s)
  | dcpZpx zp => exact .inl (show ∃ t, execDcpZpx zp s = .next t from execModify_completes _ _ _ _ s)
  | cld => exact .inl (show ∃ t, execCld s = .next t from finish_completes _ _)
  | cmpAby base => exact .inl (show ∃ t, execCmpAby base s = .next t from execRead_completes _ _ _ _ s)
  | nopDA => exact .inl (show ∃ t, execNopDA s = .next t from finish_completes _ _)
  | dcpAby base => exact .inl (show ∃ t, execDcpAby base s = .next t from execModify_completes _ _ _ _ s)
  | nopAbxDC base => exact .inl (show ∃ t, execNopAbxDC base s = .next t from execRead_completes _ _ _ _ s)
  | cmpAbx base => exact .inl (show ∃ t, execCmpAbx base s = .next t from execRead_completes _ _ _ _ s)
  | decAbx base => exact .inl (show ∃ t, execDecAbx base s = .next t from execModify_completes _ _ _ _ s)
  | dcpAbx base => exact .inl (show ∃ t, execDcpAbx base s = .next t from execModify_completes _ _ _ _ s)
  | cpxImm imm => exact .inl (show ∃ t, execCpxImm imm s = .next t from finish_completes _ _)
  | sbcIzx zp => exact .inl (show ∃ t, execSbcIzx zp s = .next t from execRead_completes _ _ _ _ s)
  | nopImmE2 imm => exact .inl (show ∃ t, execNopImmE2 imm s = .next t from finish_completes _ _)
  | iscIzx zp => exact .inl (show ∃ t, execIscIzx zp s = .next t from execModify_completes _ _ _ _ s)
  | cpxZp zp => exact .inl (show ∃ t, execCpxZp zp s = .next t from execRead_completes _ _ _ _ s)
  | sbcZp zp => exact .inl (show ∃ t, execSbcZp zp s = .next t from execRead_completes _ _ _ _ s)
  | incZp zp => exact .inl (show ∃ t, execIncZp zp s = .next t from execModify_completes _ _ _ _ s)
  | iscZp zp => exact .inl (show ∃ t, execIscZp zp s = .next t from execModify_completes _ _ _ _ s)
  | inx => exact .inl (show ∃ t, execInx s = .next t from finish_completes _ _)
  | sbcImm imm => exact .inl (show ∃ t, execSbcImm imm s = .next t from finish_completes _ _)
  | nop => exact .inl (show ∃ t, execNop s = .next t from finish_completes _ _)
  | sbcImmEB imm => exact .inl (show ∃ t, execSbcImmEB imm s = .next t from finish_completes _ _)
  | cpxAbs addr => exact .inl (show ∃ t, execCpxAbs addr s = .next t from execRead_completes _ _ _ _ s)
  | sbcAbs addr => exact .inl (show ∃ t, execSbcAbs addr s = .next t from execRead_completes _ _ _ _ s)
  | incAbs addr => exact .inl (show ∃ t, execIncAbs addr s = .next t from execModify_completes _ _ _ _ s)
  | iscAbs addr => exact .inl (show ∃ t, execIscAbs addr s = .next t from execModify_completes _ _ _ _ s)
  | beq off => exact .inl (show ∃ t, execBeq off s = .next t from execBranch_completes _ _ _ s)
  | sbcIzy zp => exact .inl (show ∃ t, execSbcIzy zp s = .next t from execRead_completes _ _ _ _ s)
  | jamF2 => exact .inr (.inl ⟨0xF2#8, by decide, execJam_outcome 0xF2#8 s⟩)
  | iscIzy zp => exact .inl (show ∃ t, execIscIzy zp s = .next t from execModify_completes _ _ _ _ s)
  | nopZpxF4 zp => exact .inl (show ∃ t, execNopZpxF4 zp s = .next t from execRead_completes _ _ _ _ s)
  | sbcZpx zp => exact .inl (show ∃ t, execSbcZpx zp s = .next t from execRead_completes _ _ _ _ s)
  | incZpx zp => exact .inl (show ∃ t, execIncZpx zp s = .next t from execModify_completes _ _ _ _ s)
  | iscZpx zp => exact .inl (show ∃ t, execIscZpx zp s = .next t from execModify_completes _ _ _ _ s)
  | sed => exact .inl (show ∃ t, execSed s = .next t from finish_completes _ _)
  | sbcAby base => exact .inl (show ∃ t, execSbcAby base s = .next t from execRead_completes _ _ _ _ s)
  | nopFA => exact .inl (show ∃ t, execNopFA s = .next t from finish_completes _ _)
  | iscAby base => exact .inl (show ∃ t, execIscAby base s = .next t from execModify_completes _ _ _ _ s)
  | nopAbxFC base => exact .inl (show ∃ t, execNopAbxFC base s = .next t from execRead_completes _ _ _ _ s)
  | sbcAbx base => exact .inl (show ∃ t, execSbcAbx base s = .next t from execRead_completes _ _ _ _ s)
  | incAbx base => exact .inl (show ∃ t, execIncAbx base s = .next t from execModify_completes _ _ _ _ s)
  | iscAbx base => exact .inl (show ∃ t, execIscAbx base s = .next t from execModify_completes _ _ _ _ s)

end Sys2Proof.Machine
end

