-- ==== Sys2Proof/Laws/Host.lean ====
section
/-! SUPPORT. What the host's `LoadState` can do (R247): what an accepted saved state leaves, that a rejection changes
nothing, and the round-trip law. -/

namespace Sys2Proof.Machine

/-- Everything an accepted `LoadState` can do: it gives the saved state with the machine's own parameters, and that
state is legal (R247). -/
theorem loadState_some {saved : Option State} {s t : State} (h : loadState saved s = some t) :
    ∃ u, saved = some u ∧ t = { u with params := s.params } ∧ consistent t = true ∧ memoriesCanonical t = true ∧
      fixedBitsHold t = true ∧ sameCartKind t.cart s.cart = true := by
  cases saved with
  | none => cases h
  | some u =>
    simp only [loadState] at h
    split at h
    · rename_i hv
      simp only [validSave, Bool.and_eq_true] at hv
      injection h with h
      subst h
      exact ⟨u, rfl, rfl, hv.1.1.1, hv.1.1.2, hv.1.2, hv.2⟩
    · cases h

/-- `LoadState` always completes, and it never changes the parameters (R247, R11). -/
theorem hostEffect_loadState (saved : Option State) (s : State) :
    ∃ t, hostEffect (.loadState saved) s = some (.next t) ∧ t.params = s.params := by
  refine ⟨_, rfl, ?_⟩
  cases h : loadState saved s with
  | none => rfl
  | some t =>
    obtain ⟨_, -, rfl, -⟩ := loadState_some h
    rfl

/-- A rejected `LoadState` changes nothing, and the result says so (R247). -/
theorem loadState_rejected {saved : Option State} {s : State} (h : loadState saved s = none) :
    hostEffect (.loadState saved) s = some (.next s) ∧ hostResult (.loadState saved) s = .rejected := by
  simp [hostEffect, hostResult, h]

/-- A cartridge is of its own kind. -/
@[simp] theorem sameCartKind_self (c : Cart) : sameCartKind c c = true := by cases c <;> rfl

/-- The round-trip law: `LoadState(SaveState())` gives back the same state (R247). -/
theorem loadState_saveState {s : State} (hc : consistent s = true) (hm : memoriesCanonical s = true)
    (hf : fixedBitsHold s = true) : loadState (some s) s = some s := by
  simp [loadState, validSave, hc, hm, hf]

/-- The fixed bits hold in a machine with the invariants of P, the PPU status, the OAM and the APU's constants. -/
theorem fixedBitsHold_of {s : State} (hp : statusFixed s.cpu.p) (hs : ppuStatusClean s) (ho : oamAttributesClean s)
    (ha : apuConstants s.apu = true) : fixedBitsHold s = true := by
  unfold statusFixed at hp
  unfold ppuStatusClean at hs
  simp only [fixedBitsHold, hp, hs, ha, decide_true, Bool.not_false, Bool.and_true, Bool.true_and, List.all_eq_true]
  exact fun n _ => decide_eq_true (ho n)

end Sys2Proof.Machine
end

