-- ==== Sys2Proof/Laws/PerInstr.lean ====
section
/-! SUPPORT. One lemma per instruction that its code is well formed: the encoder against the mode table of
Sys2Proof/WellFormed.lean, which is written from the opcode map by itself (R63, R64, R67, R72). -/

namespace Sys2Proof.Laws.EncodingWellFormed

/-- The code of an instruction has its opcode byte, every operand byte its mode asks for, and no more. -/
def Statement (i : Instr) : Prop := wellFormed (encode i) = true

theorem brk : Statement .brk := rfl
theorem oraIzx (x : Byte) : Statement (.oraIzx x) := rfl
theorem jam02 : Statement .jam02 := rfl
theorem sloIzx (x : Byte) : Statement (.sloIzx x) := rfl
theorem nopZp04 (x : Byte) : Statement (.nopZp04 x) := rfl
theorem oraZp (x : Byte) : Statement (.oraZp x) := rfl
theorem aslZp (x : Byte) : Statement (.aslZp x) := rfl
theorem sloZp (x : Byte) : Statement (.sloZp x) := rfl
theorem php : Statement .php := rfl
theorem oraImm (x : Byte) : Statement (.oraImm x) := rfl
theorem aslAcc : Statement .aslAcc := rfl
theorem ancImm0B (x : Byte) : Statement (.ancImm0B x) := rfl
theorem nopAbs (x : Word) : Statement (.nopAbs x) := rfl
theorem oraAbs (x : Word) : Statement (.oraAbs x) := rfl
theorem aslAbs (x : Word) : Statement (.aslAbs x) := rfl
theorem sloAbs (x : Word) : Statement (.sloAbs x) := rfl
theorem bpl (x : Byte) : Statement (.bpl x) := rfl
theorem oraIzy (x : Byte) : Statement (.oraIzy x) := rfl
theorem jam12 : Statement .jam12 := rfl
theorem sloIzy (x : Byte) : Statement (.sloIzy x) := rfl
theorem nopZpx14 (x : Byte) : Statement (.nopZpx14 x) := rfl
theorem oraZpx (x : Byte) : Statement (.oraZpx x) := rfl
theorem aslZpx (x : Byte) : Statement (.aslZpx x) := rfl
theorem sloZpx (x : Byte) : Statement (.sloZpx x) := rfl
theorem clc : Statement .clc := rfl
theorem oraAby (x : Word) : Statement (.oraAby x) := rfl
theorem nop1A : Statement .nop1A := rfl
theorem sloAby (x : Word) : Statement (.sloAby x) := rfl
theorem nopAbx1C (x : Word) : Statement (.nopAbx1C x) := rfl
theorem oraAbx (x : Word) : Statement (.oraAbx x) := rfl
theorem aslAbx (x : Word) : Statement (.aslAbx x) := rfl
theorem sloAbx (x : Word) : Statement (.sloAbx x) := rfl
theorem jsrAbs (x : Word) : Statement (.jsrAbs x) := rfl
theorem andIzx (x : Byte) : Statement (.andIzx x) := rfl
theorem jam22 : Statement .jam22 := rfl
theorem rlaIzx (x : Byte) : Statement (.rlaIzx x) := rfl
theorem bitZp (x : Byte) : Statement (.bitZp x) := rfl
theorem andZp (x : Byte) : Statement (.andZp x) := rfl
theorem rolZp (x : Byte) : Statement (.rolZp x) := rfl
theorem rlaZp (x : Byte) : Statement (.rlaZp x) := rfl
theorem plp : Statement .plp := rfl
theorem andImm (x : Byte) : Statement (.andImm x) := rfl
theorem rolAcc : Statement .rolAcc := rfl
theorem ancImm2B (x : Byte) : Statement (.ancImm2B x) := rfl
theorem bitAbs (x : Word) : Statement (.bitAbs x) := rfl
theorem andAbs (x : Word) : Statement (.andAbs x) := rfl
theorem rolAbs (x : Word) : Statement (.rolAbs x) := rfl
theorem rlaAbs (x : Word) : Statement (.rlaAbs x) := rfl
theorem bmi (x : Byte) : Statement (.bmi x) := rfl
theorem andIzy (x : Byte) : Statement (.andIzy x) := rfl
theorem jam32 : Statement .jam32 := rfl
theorem rlaIzy (x : Byte) : Statement (.rlaIzy x) := rfl
theorem nopZpx34 (x : Byte) : Statement (.nopZpx34 x) := rfl
theorem andZpx (x : Byte) : Statement (.andZpx x) := rfl
theorem rolZpx (x : Byte) : Statement (.rolZpx x) := rfl
theorem rlaZpx (x : Byte) : Statement (.rlaZpx x) := rfl
theorem sec : Statement .sec := rfl
theorem andAby (x : Word) : Statement (.andAby x) := rfl
theorem nop3A : Statement .nop3A := rfl
theorem rlaAby (x : Word) : Statement (.rlaAby x) := rfl
theorem nopAbx3C (x : Word) : Statement (.nopAbx3C x) := rfl
theorem andAbx (x : Word) : Statement (.andAbx x) := rfl
theorem rolAbx (x : Word) : Statement (.rolAbx x) := rfl
theorem rlaAbx (x : Word) : Statement (.rlaAbx x) := rfl
theorem rti : Statement .rti := rfl
theorem eorIzx (x : Byte) : Statement (.eorIzx x) := rfl
theorem jam42 : Statement .jam42 := rfl
theorem sreIzx (x : Byte) : Statement (.sreIzx x) := rfl
theorem nopZp44 (x : Byte) : Statement (.nopZp44 x) := rfl
theorem eorZp (x : Byte) : Statement (.eorZp x) := rfl
theorem lsrZp (x : Byte) : Statement (.lsrZp x) := rfl
theorem sreZp (x : Byte) : Statement (.sreZp x) := rfl
theorem pha : Statement .pha := rfl
theorem eorImm (x : Byte) : Statement (.eorImm x) := rfl
theorem lsrAcc : Statement .lsrAcc := rfl
theorem alrImm (x : Byte) : Statement (.alrImm x) := rfl
theorem jmpAbs (x : Word) : Statement (.jmpAbs x) := rfl
theorem eorAbs (x : Word) : Statement (.eorAbs x) := rfl
theorem lsrAbs (x : Word) : Statement (.lsrAbs x) := rfl
theorem sreAbs (x : Word) : Statement (.sreAbs x) := rfl
theorem bvc (x : Byte) : Statement (.bvc x) := rfl
theorem eorIzy (x : Byte) : Statement (.eorIzy x) := rfl
theorem jam52 : Statement .jam52 := rfl
theorem sreIzy (x : Byte) : Statement (.sreIzy x) := rfl
theorem nopZpx54 (x : Byte) : Statement (.nopZpx54 x) := rfl
theorem eorZpx (x : Byte) : Statement (.eorZpx x) := rfl
theorem lsrZpx (x : Byte) : Statement (.lsrZpx x) := rfl
theorem sreZpx (x : Byte) : Statement (.sreZpx x) := rfl
theorem cli : Statement .cli := rfl
theorem eorAby (x : Word) : Statement (.eorAby x) := rfl
theorem nop5A : Statement .nop5A := rfl
theorem sreAby (x : Word) : Statement (.sreAby x) := rfl
theorem nopAbx5C (x : Word) : Statement (.nopAbx5C x) := rfl
theorem eorAbx (x : Word) : Statement (.eorAbx x) := rfl
theorem lsrAbx (x : Word) : Statement (.lsrAbx x) := rfl
theorem sreAbx (x : Word) : Statement (.sreAbx x) := rfl
theorem rts : Statement .rts := rfl
theorem adcIzx (x : Byte) : Statement (.adcIzx x) := rfl
theorem jam62 : Statement .jam62 := rfl
theorem rraIzx (x : Byte) : Statement (.rraIzx x) := rfl
theorem nopZp64 (x : Byte) : Statement (.nopZp64 x) := rfl
theorem adcZp (x : Byte) : Statement (.adcZp x) := rfl
theorem rorZp (x : Byte) : Statement (.rorZp x) := rfl
theorem rraZp (x : Byte) : Statement (.rraZp x) := rfl
theorem pla : Statement .pla := rfl
theorem adcImm (x : Byte) : Statement (.adcImm x) := rfl
theorem rorAcc : Statement .rorAcc := rfl
theorem arrImm (x : Byte) : Statement (.arrImm x) := rfl
theorem jmpInd (x : Word) : Statement (.jmpInd x) := rfl
theorem adcAbs (x : Word) : Statement (.adcAbs x) := rfl
theorem rorAbs (x : Word) : Statement (.rorAbs x) := rfl
theorem rraAbs (x : Word) : Statement (.rraAbs x) := rfl
theorem bvs (x : Byte) : Statement (.bvs x) := rfl
theorem adcIzy (x : Byte) : Statement (.adcIzy x) := rfl
theorem jam72 : Statement .jam72 := rfl
theorem rraIzy (x : Byte) : Statement (.rraIzy x) := rfl
theorem nopZpx74 (x : Byte) : Statement (.nopZpx74 x) := rfl
theorem adcZpx (x : Byte) : Statement (.adcZpx x) := rfl
theorem rorZpx (x : Byte) : Statement (.rorZpx x) := rfl
theorem rraZpx (x : Byte) : Statement (.rraZpx x) := rfl
theorem sei : Statement .sei := rfl
theorem adcAby (x : Word) : Statement (.adcAby x) := rfl
theorem nop7A : Statement .nop7A := rfl
theorem rraAby (x : Word) : Statement (.rraAby x) := rfl
theorem nopAbx7C (x : Word) : Statement (.nopAbx7C x) := rfl
theorem adcAbx (x : Word) : Statement (.adcAbx x) := rfl
theorem rorAbx (x : Word) : Statement (.rorAbx x) := rfl
theorem rraAbx (x : Word) : Statement (.rraAbx x) := rfl
theorem nopImm80 (x : Byte) : Statement (.nopImm80 x) := rfl
theorem staIzx (x : Byte) : Statement (.staIzx x) := rfl
theorem nopImm82 (x : Byte) : Statement (.nopImm82 x) := rfl
theorem saxIzx (x : Byte) : Statement (.saxIzx x) := rfl
theorem styZp (x : Byte) : Statement (.styZp x) := rfl
theorem staZp (x : Byte) : Statement (.staZp x) := rfl
theorem stxZp (x : Byte) : Statement (.stxZp x) := rfl
theorem saxZp (x : Byte) : Statement (.saxZp x) := rfl
theorem dey : Statement .dey := rfl
theorem nopImm89 (x : Byte) : Statement (.nopImm89 x) := rfl
theorem txa : Statement .txa := rfl
theorem xaaImm (x : Byte) : Statement (.xaaImm x) := rfl
theorem styAbs (x : Word) : Statement (.styAbs x) := rfl
theorem staAbs (x : Word) : Statement (.staAbs x) := rfl
theorem stxAbs (x : Word) : Statement (.stxAbs x) := rfl
theorem saxAbs (x : Word) : Statement (.saxAbs x) := rfl
theorem bcc (x : Byte) : Statement (.bcc x) := rfl
theorem staIzy (x : Byte) : Statement (.staIzy x) := rfl
theorem jam92 : Statement .jam92 := rfl
theorem ahxIzy (x : Byte) : Statement (.ahxIzy x) := rfl
theorem styZpx (x : Byte) : Statement (.styZpx x) := rfl
theorem staZpx (x : Byte) : Statement (.staZpx x) := rfl
theorem stxZpy (x : Byte) : Statement (.stxZpy x) := rfl
theorem saxZpy (x : Byte) : Statement (.saxZpy x) := rfl
theorem tya : Statement .tya := rfl
theorem staAby (x : Word) : Statement (.staAby x) := rfl
theorem txs : Statement .txs := rfl
theorem tasAby (x : Word) : Statement (.tasAby x) := rfl
theorem shyAbx (x : Word) : Statement (.shyAbx x) := rfl
theorem staAbx (x : Word) : Statement (.staAbx x) := rfl
theorem shxAby (x : Word) : Statement (.shxAby x) := rfl
theorem ahxAby (x : Word) : Statement (.ahxAby x) := rfl
theorem ldyImm (x : Byte) : Statement (.ldyImm x) := rfl
theorem ldaIzx (x : Byte) : Statement (.ldaIzx x) := rfl
theorem ldxImm (x : Byte) : Statement (.ldxImm x) := rfl
theorem laxIzx (x : Byte) : Statement (.laxIzx x) := rfl
theorem ldyZp (x : Byte) : Statement (.ldyZp x) := rfl
theorem ldaZp (x : Byte) : Statement (.ldaZp x) := rfl
theorem ldxZp (x : Byte) : Statement (.ldxZp x) := rfl
theorem laxZp (x : Byte) : Statement (.laxZp x) := rfl
theorem tay : Statement .tay := rfl
theorem ldaImm (x : Byte) : Statement (.ldaImm x) := rfl
theorem tax : Statement .tax := rfl
theorem lxaImm (x : Byte) : Statement (.lxaImm x) := rfl
theorem ldyAbs (x : Word) : Statement (.ldyAbs x) := rfl
theorem ldaAbs (x : Word) : Statement (.ldaAbs x) := rfl
theorem ldxAbs (x : Word) : Statement (.ldxAbs x) := rfl
theorem laxAbs (x : Word) : Statement (.laxAbs x) := rfl
theorem bcs (x : Byte) : Statement (.bcs x) := rfl
theorem ldaIzy (x : Byte) : Statement (.ldaIzy x) := rfl
theorem jamB2 : Statement .jamB2 := rfl
theorem laxIzy (x : Byte) : Statement (.laxIzy x) := rfl
theorem ldyZpx (x : Byte) : Statement (.ldyZpx x) := rfl
theorem ldaZpx (x : Byte) : Statement (.ldaZpx x) := rfl
theorem ldxZpy (x : Byte) : Statement (.ldxZpy x) := rfl
theorem laxZpy (x : Byte) : Statement (.laxZpy x) := rfl
theorem clv : Statement .clv := rfl
theorem ldaAby (x : Word) : Statement (.ldaAby x) := rfl
theorem tsx : Statement .tsx := rfl
theorem larAby (x : Word) : Statement (.larAby x) := rfl
theorem ldyAbx (x : Word) : Statement (.ldyAbx x) := rfl
theorem ldaAbx (x : Word) : Statement (.ldaAbx x) := rfl
theorem ldxAby (x : Word) : Statement (.ldxAby x) := rfl
theorem laxAby (x : Word) : Statement (.laxAby x) := rfl
theorem cpyImm (x : Byte) : Statement (.cpyImm x) := rfl
theorem cmpIzx (x : Byte) : Statement (.cmpIzx x) := rfl
theorem nopImmC2 (x : Byte) : Statement (.nopImmC2 x) := rfl
theorem dcpIzx (x : Byte) : Statement (.dcpIzx x) := rfl
theorem cpyZp (x : Byte) : Statement (.cpyZp x) := rfl
theorem cmpZp (x : Byte) : Statement (.cmpZp x) := rfl
theorem decZp (x : Byte) : Statement (.decZp x) := rfl
theorem dcpZp (x : Byte) : Statement (.dcpZp x) := rfl
theorem iny : Statement .iny := rfl
theorem cmpImm (x : Byte) : Statement (.cmpImm x) := rfl
theorem dex : Statement .dex := rfl
theorem axsImm (x : Byte) : Statement (.axsImm x) := rfl
theorem cpyAbs (x : Word) : Statement (.cpyAbs x) := rfl
theorem cmpAbs (x : Word) : Statement (.cmpAbs x) := rfl
theorem decAbs (x : Word) : Statement (.decAbs x) := rfl
theorem dcpAbs (x : Word) : Statement (.dcpAbs x) := rfl
theorem bne (x : Byte) : Statement (.bne x) := rfl
theorem cmpIzy (x : Byte) : Statement (.cmpIzy x) := rfl
theorem jamD2 : Statement .jamD2 := rfl
theorem dcpIzy (x : Byte) : Statement (.dcpIzy x) := rfl
theorem nopZpxD4 (x : Byte) : Statement (.nopZpxD4 x) := rfl
theorem cmpZpx (x : Byte) : Statement (.cmpZpx x) := rfl
theorem decZpx (x : Byte) : Statement (.decZpx x) := rfl
theorem dcpZpx (x : Byte) : Statement (.dcpZpx x) := rfl
theorem cld : Statement .cld := rfl
theorem cmpAby (x : Word) : Statement (.cmpAby x) := rfl
theorem nopDA : Statement .nopDA := rfl
theorem dcpAby (x : Word) : Statement (.dcpAby x) := rfl
theorem nopAbxDC (x : Word) : Statement (.nopAbxDC x) := rfl
theorem cmpAbx (x : Word) : Statement (.cmpAbx x) := rfl
theorem decAbx (x : Word) : Statement (.decAbx x) := rfl
theorem dcpAbx (x : Word) : Statement (.dcpAbx x) := rfl
theorem cpxImm (x : Byte) : Statement (.cpxImm x) := rfl
theorem sbcIzx (x : Byte) : Statement (.sbcIzx x) := rfl
theorem nopImmE2 (x : Byte) : Statement (.nopImmE2 x) := rfl
theorem iscIzx (x : Byte) : Statement (.iscIzx x) := rfl
theorem cpxZp (x : Byte) : Statement (.cpxZp x) := rfl
theorem sbcZp (x : Byte) : Statement (.sbcZp x) := rfl
theorem incZp (x : Byte) : Statement (.incZp x) := rfl
theorem iscZp (x : Byte) : Statement (.iscZp x) := rfl
theorem inx : Statement .inx := rfl
theorem sbcImm (x : Byte) : Statement (.sbcImm x) := rfl
theorem nop : Statement .nop := rfl
theorem sbcImmEB (x : Byte) : Statement (.sbcImmEB x) := rfl
theorem cpxAbs (x : Word) : Statement (.cpxAbs x) := rfl
theorem sbcAbs (x : Word) : Statement (.sbcAbs x) := rfl
theorem incAbs (x : Word) : Statement (.incAbs x) := rfl
theorem iscAbs (x : Word) : Statement (.iscAbs x) := rfl
theorem beq (x : Byte) : Statement (.beq x) := rfl
theorem sbcIzy (x : Byte) : Statement (.sbcIzy x) := rfl
theorem jamF2 : Statement .jamF2 := rfl
theorem iscIzy (x : Byte) : Statement (.iscIzy x) := rfl
theorem nopZpxF4 (x : Byte) : Statement (.nopZpxF4 x) := rfl
theorem sbcZpx (x : Byte) : Statement (.sbcZpx x) := rfl
theorem incZpx (x : Byte) : Statement (.incZpx x) := rfl
theorem iscZpx (x : Byte) : Statement (.iscZpx x) := rfl
theorem sed : Statement .sed := rfl
theorem sbcAby (x : Word) : Statement (.sbcAby x) := rfl
theorem nopFA : Statement .nopFA := rfl
theorem iscAby (x : Word) : Statement (.iscAby x) := rfl
theorem nopAbxFC (x : Word) : Statement (.nopAbxFC x) := rfl
theorem sbcAbx (x : Word) : Statement (.sbcAbx x) := rfl
theorem incAbx (x : Word) : Statement (.incAbx x) := rfl
theorem iscAbx (x : Word) : Statement (.iscAbx x) := rfl

end Sys2Proof.Laws.EncodingWellFormed
end

