-- ==== Sys2Proof/Laws/PpuClock.lean ====
section
/-! SUPPORT. What one PPU dot can do, said once: the closure of a property of the PPU and its cartridge under the dot's
parts, and from it the parts of the PPU no dot changes. -/

namespace Sys2Proof.Machine

/-- The sprite pattern fetch of a slot changes at most the cartridge (R202). -/
theorem fetchSlot_ppu (i : Nat) (s : Slot) (b : PpuBus) : (fetchSlot i s b).2.ppu = b.ppu := by
  unfold fetchSlot
  split <;> rfl

/-- The eight slot fetches in a row change at most the cartridge (R202). -/
theorem fetchSlots_ppu (s0 s1 s2 s3 s4 s5 s6 s7 : Slot) (b : PpuBus) :
    (fetchSlot 7 s7 (fetchSlot 6 s6 (fetchSlot 5 s5 (fetchSlot 4 s4 (fetchSlot 3 s3 (fetchSlot 2 s2 (fetchSlot 1 s1
      (fetchSlot 0 s0 b).2).2).2).2).2).2).2).2.ppu = b.ppu := by
  simp only [fetchSlot_ppu]

/-- The sprite pattern fetch changes of the PPU the slots alone (R202). -/
theorem fetchSprites_ppu (b : PpuBus) : ∃ slots, (fetchSprites b).ppu = { b.ppu with slots := slots } := by
  have e := fetchSlots_ppu b.ppu.slots.s0 b.ppu.slots.s1 b.ppu.slots.s2 b.ppu.slots.s3 b.ppu.slots.s4 b.ppu.slots.s5
    b.ppu.slots.s6 b.ppu.slots.s7 b
  refine ⟨(fetchSprites b).ppu.slots, ?_⟩
  unfold fetchSprites
  dsimp only
  rw [e]

/-- What a property of the PPU and its cartridge needs to be kept by the work of a dot at a given position. -/
structure DotKeeps (J : PpuBus → Prop) (scanline dot : Nat) : Prop where
  clear : ∀ b, J b → J (onPpu preRenderClear b)
  shift : ∀ b, J b → J (onPpu shiftBackground b)
  load : ∀ b, J b → J (onPpu loadShifters b)
  tile : ∀ b, J b → J (fetchTile b)
  attrByte : ∀ b, J b → J (fetchAttribute b)
  patternLo : ∀ b, J b → J (fetchPatternLo b)
  patternHi : ∀ b, J b → J (fetchPatternHi b)
  scroll : ∀ b v, J b → J (onPpu (fun p => { p with v := v }) b)
  stepSprites : ∀ b, J b → J (onPpu stepSprites b)
  evaluate : ∀ b, J b → J (onPpu evaluateSprites b)
  sprites : ∀ b, J b → J (fetchSprites b)
  count : ∀ b, J b → J (countScanline b)
  vblank : ∀ b, J b → J (onPpu startVblank b)
  pixel : ∀ b, scanline ≤ 239 → 1 ≤ dot → dot ≤ 256 → J b → J (onPpu composePixel b)

theorem onlyIf_keeps {J : PpuBus → Prop} (c : Bool) (f : PpuBus → PpuBus) (b : PpuBus) (hf : ∀ b, J b → J (f b))
    (h : J b) : J (onlyIf c f b) := by
  unfold onlyIf
  split
  · exact hf b h
  · exact h

/-- The fetch cycle keeps what its parts keep (R192). -/
theorem fetchCycle_keeps {J : PpuBus → Prop} {n m : Nat} (k : DotKeeps J n m) (b : PpuBus) (h : J b) :
    J (fetchCycle b) := by
  unfold fetchCycle
  split
  · exact k.tile _ (k.load _ h)
  · exact k.attrByte _ h
  · exact k.patternLo _ h
  · exact k.patternHi _ h
  · exact k.scroll b (incCoarseX b.ppu.v) h
  · exact h

/-- The work of a render line keeps what its parts keep (R192). -/
theorem renderSteps_keeps {J : PpuBus → Prop} {n m : Nat} (k : DotKeeps J n m) (b : PpuBus) (h : J b) :
    J (renderSteps b) := by
  unfold renderSteps
  dsimp only
  refine onlyIf_keeps _ _ _ k.count ?_
  refine onlyIf_keeps _ _ _ k.sprites ?_
  refine onlyIf_keeps _ _ _ k.evaluate ?_
  refine onlyIf_keeps _ _ _ (fun b h => k.scroll b _ h) ?_
  refine onlyIf_keeps _ _ _ k.tile ?_
  refine onlyIf_keeps _ _ _ (fun b h => k.scroll (onPpu loadShifters b) _ (k.load b h)) ?_
  refine onlyIf_keeps _ _ _ (fun b h => k.scroll b _ h) ?_
  refine onlyIf_keeps _ _ _ k.stepSprites ?_
  exact onlyIf_keeps _ _ _ (fun b h => fetchCycle_keeps k _ (k.shift b h)) h

/-- The work of a dot keeps what its parts keep (R192). -/
theorem dotWork_keeps {J : PpuBus → Prop} (b : PpuBus) (k : DotKeeps J b.ppu.scanline b.ppu.dot) (h : J b) :
    J (dotWork b) := by
  have h1 := onlyIf_keeps (decide (b.ppu.scanline = 261) && decide (b.ppu.dot = 1)) _ b k.clear h
  have h2 := onlyIf_keeps
    (renderLine (onlyIf (decide (b.ppu.scanline = 261) && decide (b.ppu.dot = 1)) (onPpu preRenderClear) b).ppu &&
      rendering (onlyIf (decide (b.ppu.scanline = 261) && decide (b.ppu.dot = 1)) (onPpu preRenderClear) b).ppu)
    _ _ (renderSteps_keeps k) h1
  have h3 := onlyIf_keeps (decide (b.ppu.scanline = 241) && decide (b.ppu.dot = 1)) _ _ k.vblank h2
  unfold dotWork
  dsimp only
  unfold onlyIf at h1 h2 h3 ⊢
  split
  · rename_i hp
    simp only [Bool.and_eq_true, decide_eq_true_eq] at hp
    exact k.pixel _ hp.1.1 hp.1.2 hp.2 h3
  · exact h3

/-- The parts of the PPU that no dot's work changes: the registers, the memories but the frame buffer, the position
(R192). -/
structure SameOutsideDot (p q : Ppu) : Prop where
  ctrl : q.ctrl = p.ctrl
  mask : q.mask = p.mask
  t : q.t = p.t
  x : q.x = p.x
  w : q.w = p.w
  oamAddr : q.oamAddr = p.oamAddr
  oam : q.oam = p.oam
  nt : q.nt = p.nt
  pal : q.pal = p.pal
  readBuffer : q.readBuffer = p.readBuffer
  scanline : q.scanline = p.scanline
  dot : q.dot = p.dot
  oddFrame : q.oddFrame = p.oddFrame

theorem dotWork_same (b : PpuBus) : SameOutsideDot b.ppu (dotWork b).ppu := by
  refine dotWork_keeps (J := fun c => SameOutsideDot b.ppu c.ppu) b ?_
    ⟨rfl, rfl, rfl, rfl, rfl, rfl, rfl, rfl, rfl, rfl, rfl, rfl, rfl⟩
  have same : ∀ (p q r : Ppu), SameOutsideDot p q → SameOutsideDot q r → SameOutsideDot p r := fun p q r h h' =>
    ⟨h'.ctrl.trans h.ctrl, h'.mask.trans h.mask, h'.t.trans h.t, h'.x.trans h.x, h'.w.trans h.w,
      h'.oamAddr.trans h.oamAddr, h'.oam.trans h.oam, h'.nt.trans h.nt, h'.pal.trans h.pal,
      h'.readBuffer.trans h.readBuffer, h'.scanline.trans h.scanline, h'.dot.trans h.dot,
      h'.oddFrame.trans h.oddFrame⟩
  refine ⟨?_, ?_, ?_, ?_, ?_, ?_, ?_, ?_, ?_, ?_, ?_, ?_, ?_, ?_⟩ <;> intro c
  case refine_11 =>
    intro h
    obtain ⟨slots, e⟩ := fetchSprites_ppu c
    rw [e]
    exact same _ c.ppu _ h ⟨rfl, rfl, rfl, rfl, rfl, rfl, rfl, rfl, rfl, rfl, rfl, rfl, rfl⟩
  case refine_8 =>
    intro v h
    exact same _ c.ppu _ h ⟨rfl, rfl, rfl, rfl, rfl, rfl, rfl, rfl, rfl, rfl, rfl, rfl, rfl⟩
  case refine_14 =>
    intro _ _ _ h
    exact same _ c.ppu _ h ⟨rfl, rfl, rfl, rfl, rfl, rfl, rfl, rfl, rfl, rfl, rfl, rfl, rfl⟩
  all_goals
    intro h
    exact same _ c.ppu _ h ⟨rfl, rfl, rfl, rfl, rfl, rfl, rfl, rfl, rfl, rfl, rfl, rfl, rfl⟩

/-- The position's advance changes the position and the parity alone (R193). -/
theorem advancePosition_eq (p : Ppu) : ∃ s d o, advancePosition p = { p with scanline := s, dot := d, oddFrame := o } ∧
    (p.scanline ≤ 261 → s ≤ 261) ∧ (p.dot ≤ 340 → d ≤ 340) := by
  unfold advancePosition
  split
  · exact ⟨_, _, _, rfl, by omega, by omega⟩
  · split
    · split
      · exact ⟨_, _, _, rfl, by omega, by omega⟩
      · exact ⟨_, _, p.oddFrame, rfl, by omega, by omega⟩
    · exact ⟨p.scanline, _, p.oddFrame, rfl, id, by omega⟩

/-- A property is kept by a whole dot when the dot's work and any move of the position keep it. -/
theorem ppuClock_keeps {J : PpuBus → Prop} (b : PpuBus) (k : DotKeeps J b.ppu.scanline b.ppu.dot)
    (move : ∀ c s d o, (c.ppu.scanline ≤ 261 → s ≤ 261) → (c.ppu.dot ≤ 340 → d ≤ 340) → J c →
      J (onPpu (fun p => { p with scanline := s, dot := d, oddFrame := o }) c)) (h : J b) : J (ppuClock b) := by
  obtain ⟨s, d, o, e, hs, hd⟩ := advancePosition_eq (dotWork b).ppu
  have hw := dotWork_keeps b k h
  have := move (dotWork b) s d o hs hd hw
  unfold ppuClock onPpu at *
  rw [e]
  exact this

/-- A property of the cartridge that PPU reads keep is kept by a slot's fetch (R202). -/
theorem fetchSlot_cart {K : Cart → Prop} (read : ∀ c a, K c → K (cartPpuRead c a).2) (i : Nat) (s : Slot)
    (b : PpuBus) (h : K b.cart) : K (fetchSlot i s b).2.cart := by
  unfold fetchSlot
  split
  · exact read _ _ (read _ _ h)
  · exact h

/-- A property of the cartridge that PPU reads keep is kept by the sprite pattern fetch (R202). -/
theorem fetchSprites_cart {K : Cart → Prop} (read : ∀ c a, K c → K (cartPpuRead c a).2) (b : PpuBus) (h : K b.cart) :
    K (fetchSprites b).cart := by
  have slot := fetchSlot_cart read
  unfold fetchSprites
  dsimp only
  exact slot _ _ _ (slot _ _ _ (slot _ _ _ (slot _ _ _ (slot _ _ _ (slot _ _ _ (slot _ _ _ (slot _ _ _ h)))))))

/-- A property of the cartridge that PPU reads and scanline counts keep is kept by a dot (R192). -/
theorem ppuClock_keeps_cart {K : Cart → Prop} (read : ∀ c a, K c → K (cartPpuRead c a).2)
    (count : ∀ c, K c → K (cartCountScanline c)) (b : PpuBus) (h : K b.cart) : K (ppuClock b).cart := by
  refine ppuClock_keeps (J := fun c => K c.cart) b ?_ (fun _ _ _ _ _ _ h => h) h
  exact ⟨fun _ h => h, fun _ h => h, fun _ h => h, fun c h => read c.cart _ h, fun c h => read c.cart _ h,
    fun c h => read c.cart _ h, fun c h => read c.cart _ h, fun _ _ h => h, fun _ h => h, fun _ h => h,
    fun c h => fetchSprites_cart read c h, fun c h => count c.cart h, fun _ h => h, fun _ _ _ _ h => h⟩

/-- A dot keeps a cartridge whose contents are listed (R49). -/
theorem ppuClock_cart (b : PpuBus) (h : ∀ cs, b.cart ≠ .custom cs) : (ppuClock b).cart = b.cart := by
  refine ppuClock_keeps_cart (K := fun c => c = b.cart) (fun c a e => ?_) (fun c e => ?_) b rfl
  all_goals
    rw [e]
    cases hb : b.cart with
    | absent => rfl
    | board m => rfl
    | custom cs => exact absurd hb (h cs)

end Sys2Proof.Machine
end

