-- ==== Sys2Proof/Laws/Stack.lean ====
section
/-! SUPPORT. The stack and the interrupt entry, said once: what pushes, pulls and an entry write, and what they leave
unchanged (R14, R21, R254). -/

namespace Sys2Proof.Machine

/-- Two reads leave every memory alone (R46, R57). -/
theorem readPair_frame (s : State) (lo hi : Word) :
    SameMemories s (memRead (memRead s lo).2 hi).2 ∧ MemoryFrame s (memRead (memRead s lo).2 hi).2 [] :=
  ⟨(memRead_memories s lo).trans (memRead_memories _ hi), MemoryFrame.trans (fun hs => by rw [memRead_cart s lo hs]; exact hs) (memRead_memoryFrame s lo)
        (memRead_memoryFrame _ hi)⟩

/-- Pushes change no byte of memory but the cells they write (R14). -/
theorem afterPushes_memoryFrame (s : State) (sp : Byte) :
    ∀ bs : List Byte, MemoryFrame s (afterPushes s sp bs) (pushedCells sp bs.length) := by
  intro bs
  induction bs generalizing s sp with
  | nil => exact MemoryFrame.refl _ _
  | cons b bs ih => 
     simp only [List.length_cons, pushedCells, afterPushes]
     exact MemoryFrame.trans (l := [stackCell sp]) (fun hs => (memWrite_prg _ _ _ hs).1) (memWrite_memoryFrame _ _ _) (ih _ _)

/-- A stack cell lies in internal RAM (R21, R45). -/
theorem stackCell_lt (sp : Byte) : (stackCell sp).toNat < 0x2000 := by rw [stackCell_toNat]; have := sp.isLt; omega

/-- Different stack pointers have different RAM cells (R21). -/
theorem stackCell_inj (a b : Byte) (h : sameRamCell (stackCell a) (stackCell b)) : a = b := by
  obtain ⟨_, _, h⟩ := h; rw [stackCell_toNat, stackCell_toNat] at h
  have := a.isLt; have := b.isLt
  apply BitVec.eq_of_toNat_eq; omega

/-- A cartridge whose contents are listed claims no write to internal RAM. -/
theorem cartCpuWrite_ram (c : Cart) (h : ∀ cs, c ≠ .custom cs) (a : Word) (v : Byte) (ha : a.toNat < 0x2000) :
    (cartCpuWrite c a v).1 = false := by
  cases c with
  | absent => rfl
  | board m => simp [cartCpuWrite, boardClaimsCpu]; omega
  | custom cs => exact absurd rfl (h cs)

/-- A byte written to RAM stands there, when the cartridge lists its contents (R45, R48). -/
theorem ramByte_memWrite (s : State) (h : ∀ cs, s.cart ≠ .custom cs) (a : Word) (v : Byte) (ha : a.toNat < 0x2000) :
    ramByte (memWrite s a v) a = v := by
  simp only [ramByte, memWrite_ram, cartCpuWrite_ram _ h _ _ ha, ha, and_self, if_true, Memory.load_store_same]

/-- The cells of afterPushes_memoryFrame are those of the stack pointers below the first. -/
theorem mem_pushedCells (sp : Byte) (n : Nat) :
    ∀ b ∈ pushedCells sp n, ∃ k, k < n ∧ b = stackCell (sp - BitVec.ofNat 8 k) := by
  induction n generalizing sp with
  | zero => simp [pushedCells]
  | succ n ih =>
    intro b hb
    simp [pushedCells] at hb
    rcases hb with rfl | hb
    · exact ⟨0, by omega, by simp⟩
    · obtain ⟨k, hk, rfl⟩ := ih _ _ hb
      refine ⟨k + 1, by omega, ?_⟩
      congr 1
      rw [BitVec.sub_sub]; congr 1
      apply BitVec.eq_of_toNat_eq; simp; omega

/-- After up to three afterPushes_memoryFrame the bytes stand on the stack, whatever SP is. -/
theorem afterPushes_holds (s : State) (sp : Byte) :
    ∀ bs : List Byte, bs.length ≤ 3 → (∀ cs, s.cart ≠ .custom cs) → StackHolds (afterPushes s sp bs) sp bs := by
  intro bs
  induction bs generalizing s sp with
  | nil => intros; trivial
  | cons b bs ih =>
    intro hl hs
    refine ⟨?_, ih _ _ (by simp at hl; omega) (memWrite_prg _ _ _ hs).1⟩
    simp only [afterPushes]
    rw [(afterPushes_memoryFrame _ (sp-1) bs).1 _ (stackCell_lt _), ramByte_memWrite _ hs _ _ (stackCell_lt _)]
    intro c hc h
    obtain ⟨k, hk, rfl⟩ := mem_pushedCells _ _ _ hc
    have := stackCell_inj _ _ h
    simp at hl
    have h3 : k < 3 := by omega
    revert this; clear * - h3
    interval_cases k <;> revert sp <;> decide

/-- What the stack afterPushes_holds does not depend on the CPU. -/
theorem StackHolds.setCpu {t : State} {c : Cpu} (sp : Byte) :
    ∀ bs, StackHolds t sp bs → StackHolds (t.setCpu c) sp bs := by
  intro bs
  induction bs generalizing sp with
  | nil => intros; trivial
  | cons b bs ih => intro h; exact ⟨h.1, ih _ h.2⟩

/-- What a pushing instruction leaves unchanged (R14). -/
theorem afterPushes_frame (s : State) (bs : List Byte) (c : Cpu) (h : bs.length ≤ 3) :
    PushFrame s ((afterPushes s s.cpu.sp bs).setCpu c) bs :=
  ⟨rfl, (afterPushes_memoryFrame s s.cpu.sp bs).setCpu c, fun hs => StackHolds.setCpu _ _ (afterPushes_holds s _ bs h hs)⟩

/-- Pulls change no memory and, when its contents are listed, not the cartridge (R14, R46). -/
theorem pulls_frame (s : State) (sp : Byte) (n : Nat) :
    SameMemories s (pulls s sp n).2 ∧ MemoryFrame s (pulls s sp n).2 [] ∧
    ((∀ cs, s.cart ≠ .custom cs) → (pulls s sp n).2.cart = s.cart) := by
  induction n generalizing s sp with
  | zero => exact ⟨⟨rfl, rfl, rfl, rfl, rfl⟩, MemoryFrame.refl _ _, fun _ => rfl⟩
  | succ n ih =>
    obtain ⟨h1, h2, h3⟩ := ih (memRead s (stackCell (sp + 1))).2 (sp + 1)
    refine ⟨(memRead_memories _ _).trans h1,
      MemoryFrame.trans (fun hs => by rw [memRead_cart _ _ hs]; exact hs) (memRead_memoryFrame _ _) h2, fun hs => ?_⟩
    simp only [pulls]; rw [h3 (by rw [memRead_cart _ _ hs]; exact hs), memRead_cart _ _ hs]

/-- What a pulling instruction leaves unchanged (R14). -/
theorem pulls_pullFrame (s : State) (n : Nat) (c : Cpu) : PullFrame s ((pulls s s.cpu.sp n).2.setCpu c) n :=
  let h := pulls_frame s s.cpu.sp n
  ⟨rfl, h.1, h.2.1.setCpu c⟩

/-- Taking an interrupt, said once: three pushes, two reads of the vector, and the new CPU (R137, R254). -/
theorem enter_eq (s : State) (v ret : Word) (st : Byte) :
    enter s v ret st = (afterVector (afterPushes s s.cpu.sp [hiByte ret, loByte ret, st]) v).setCpu { s.cpu with
      pc := vectorWord (afterPushes s s.cpu.sp [hiByte ret, loByte ret, st]) v
      sp := s.cpu.sp - 3, p := setFlag s.cpu.p .i true, budget := 7 } := by
  simp only [enter, pushWord, push_eq, read16, readPair, setBudget_eq, setP_eq, setPc_eq, setCpu_setCpu, setCpu_cpu,
    memWrite_setCpu, memRead_setCpu, afterPushes, afterVector, vectorWord, BitVec.sub_sub]
  rfl

/-- What an entry leaves unchanged (R254). -/
theorem enter_frame (s : State) (v : Word) (bs : List Byte) (c : Cpu) (h : bs.length ≤ 3) :
    EntryFrame s ((afterVector (afterPushes s s.cpu.sp bs) v).setCpu c) v bs := by
  have p := readPair_frame (afterPushes s s.cpu.sp bs) v (v+1)
  refine ⟨rfl, ?_, fun hs => StackHolds.setCpu _ _ ?_⟩
  · have := MemoryFrame.trans (l' := []) (fun hs => ?_) (afterPushes_memoryFrame s s.cpu.sp bs) p.2
    · rw [List.append_nil] at this
      exact MemoryFrame.setCpu c this
    · clear p h
      generalize s.cpu.sp = sp
      induction bs generalizing s sp with
      | nil => exact hs
      | cons b bs ih => exact ih (memWrite s (stackCell sp) b) (memWrite_prg s _ b hs).1 _ 
  · have h := afterPushes_holds s s.cpu.sp bs h hs
    have e : (afterVector (afterPushes s s.cpu.sp bs) v).ram = (afterPushes s s.cpu.sp bs).ram := p.1.1
    revert h; generalize (afterPushes s s.cpu.sp bs) = m at *; generalize (afterVector m v) = m' at *
    generalize s.cpu.sp = sp
    clear p 
    induction bs generalizing sp with
    | nil => intros; trivial
    | cons b bs ih => intro h; exact ⟨by rw [← h.1]; simp only [ramByte, e], ih (by simp at *; omega) _ h.2⟩

end Sys2Proof.Machine
end

