-- ==== Sys2Proof/Laws/Step.lean ====
section
/-! SUPPORT. What one step can do, said once: the closure of a property of machines under the parts of a master tick,
from which every invariant of the machine follows, and the parts of the machine the devices' clocks never change. -/

namespace Sys2Proof.Machine

/-- What a property of machines needs for every step to keep it. -/
structure StepKeeps (I : State → Prop) : Prop extends BusKeeps I where
  devices : ∀ s, I s → I (clockDevices s)
  dma : ∀ s, s.dma.active = true → I s → I (dmaCycle s)
  acknowledge : ∀ s, I s → I (acknowledgeIrq s)
  countSlot : ∀ s, I s → I (countSlot s)
  endOfTick : ∀ s, I s → I (endOfTick s)

variable {I : State → Prop}

/-- A fetch keeps what the bus keeps (R14). -/
theorem fetch8_keeps (k : BusKeeps I) (s : State) (h : I s) : I (fetch8 s).2 :=
  k.setPc _ _ (k.read s s.cpu.pc h)

/-- The fetch of an instruction keeps what the bus keeps (R239). -/
theorem fetchInstr_keeps (k : BusKeeps I) (s : State) (h : I s) : I (fetchInstr s).2 := by
  have h1 := fetch8_keeps k s h
  unfold fetchInstr fetchOperands
  dsimp only
  split
  · exact h1
  · exact fetch8_keeps k _ h1
  · exact fetch8_keeps k _ (fetch8_keeps k _ h1)

/-- What follows a completed part. -/
theorem thenNext_next {o : Host.Outcome State Fault Refusal} {f : State → State} {t : State}
    (e : thenNext o f = .next t) : ∃ s, o = .next s ∧ f s = t := by
  cases o with
  | next s => injection e with e; exact ⟨s, rfl, e⟩
  | fault r => cases e
  | refused r => cases e

/-- The boundary's work keeps what the step's parts keep (R253). -/
theorem cpuBoundary_keeps (k : StepKeeps I) {s t : State} (h : I s) (e : cpuBoundary s = .next t) : I t := by
  unfold cpuBoundary at e
  split at e
  · injection e with e; subst e; exact h
  · split at e
    · injection e with e; subst e
      exact k.toBusKeeps.enter _ _ _ _ (k.sameP s { s.cpu with nmiPending := false } rfl h)
    · split at e
      · injection e with e; subst e
        exact k.toBusKeeps.enter _ _ _ _ (k.acknowledge s h)
      · exact exec_keeps k.toBusKeeps _ (fetchInstr_keeps k.toBusKeeps s h) e

/-- The CPU slot keeps what the step's parts keep (R239). -/
theorem cpuSlot_keeps (k : StepKeeps I) {s t : State} (h : I s) (e : cpuSlot s = .next t) : I t := by
  unfold cpuSlot at e
  obtain ⟨u, e', rfl⟩ := thenNext_next e
  refine k.countSlot u ?_
  split at e'
  · rename_i ha
    injection e' with e'; subst e'; exact k.dma s ha h
  · unfold cpuCycle at e'
    obtain ⟨v, e'', rfl⟩ := thenNext_next e'
    refine k.setBudget _ _ ?_
    split at e''
    · exact cpuBoundary_keeps k h e''
    · injection e'' with e''; subst e''; exact h

/-- Every step keeps what its parts keep (R238). -/
theorem step_keeps (k : StepKeeps I) {s t : State} (h : I s) (e : step s = .next t) : I t := by
  unfold step clockTick at e
  split at e
  · unfold masterTick at e
    split at e
    · obtain ⟨u, e', rfl⟩ := thenNext_next e
      exact k.endOfTick u (cpuSlot_keeps k (k.devices s h) e')
    · injection e with e; subst e; exact k.endOfTick _ (k.devices s h)
  · cases e

/-! ### The devices' clocks -/

@[simp] theorem clockDevices_cpu (s : State) : (clockDevices s).cpu = s.cpu := rfl
@[simp] theorem clockDevices_dma (s : State) : (clockDevices s).dma = s.dma := rfl
@[simp] theorem clockDevices_ctrl (s : State) : (clockDevices s).ctrl = s.ctrl := rfl
@[simp] theorem clockDevices_ram (s : State) : (clockDevices s).ram = s.ram := rfl
@[simp] theorem clockDevices_tick (s : State) : (clockDevices s).tick = s.tick := rfl
@[simp] theorem clockDevices_cpuCycles (s : State) : (clockDevices s).cpuCycles = s.cpuCycles := rfl
@[simp] theorem clockDevices_params (s : State) : (clockDevices s).params = s.params := rfl
@[simp] theorem clockDevices_ppu (s : State) : (clockDevices s).ppu = (ppuClock s.ppuBus).ppu := rfl
@[simp] theorem clockDevices_cart (s : State) : (clockDevices s).cart = (ppuClock s.ppuBus).cart := rfl
@[simp] theorem clockDevices_apu (s : State) :
    (clockDevices s).apu = apuClock s.params (isCpuTick s) s.apu := rfl

/-! ### The end of a tick -/

@[simp] theorem endOfTick_ram (s : State) : (endOfTick s).ram = s.ram := by
  unfold endOfTick reloadPorts; dsimp only; split <;> rfl
@[simp] theorem endOfTick_apu (s : State) : (endOfTick s).apu = s.apu := by
  unfold endOfTick reloadPorts; dsimp only; split <;> rfl
@[simp] theorem endOfTick_dma (s : State) : (endOfTick s).dma = s.dma := by
  unfold endOfTick reloadPorts; dsimp only; split <;> rfl
@[simp] theorem endOfTick_cart (s : State) : (endOfTick s).cart = s.cart := by
  unfold endOfTick reloadPorts; dsimp only; split <;> rfl
@[simp] theorem endOfTick_params (s : State) : (endOfTick s).params = s.params := by
  unfold endOfTick reloadPorts; dsimp only; split <;> rfl
@[simp] theorem endOfTick_cpuCycles (s : State) : (endOfTick s).cpuCycles = s.cpuCycles := by
  unfold endOfTick reloadPorts; dsimp only; split <;> rfl
@[simp] theorem endOfTick_tick (s : State) : (endOfTick s).tick = s.tick + 1 := by
  unfold endOfTick reloadPorts; dsimp only; split <;> rfl
@[simp] theorem endOfTick_ppu (s : State) : (endOfTick s).ppu = { s.ppu with nmiOut := false } := by
  unfold endOfTick reloadPorts; dsimp only; split <;> rfl

/-- Interrupt delivery on the CPU (R242, R243). -/
@[simp] theorem endOfTick_cpu (s : State) : (endOfTick s).cpu =
    { s.cpu with
      nmiPending := s.cpu.nmiPending || s.ppu.nmiOut
      irqLine := s.apu.frame.irqPending || cartGetIrq s.cart } := by
  unfold endOfTick reloadPorts; dsimp only; split <;> rfl

/-- Reading plain memory has no side effect and gives what the peek shows (R46, R47). -/
theorem memRead_plain (s : State) (a : Word) (h : PlainAddress s a) : memRead s a = (peek s a, s) := by
  obtain ⟨hc, ha⟩ := h
  have key : ∀ s : State, ownReadEffect s a = s := by
    intro s
    rcases ha with ha | ha
    · simp only [ownReadEffect, regionOf_ram ha]
    · simp only [ownReadEffect, regionOf_unmapped ha]
  unfold memRead peek
  cases hh : s.cart with
  | custom cs => exact absurd hh (hc cs)
  | absent =>
    simp only [cartCpuRead, State.setCart, key]
    cases s
    simp at hh
    subst hh
    rfl
  | board m =>
    simp only [cartCpuRead, State.setCart, key]
    cases s
    simp at hh
    subst hh
    by_cases hb : boardClaimsCpu a = true
    · simp [hb]
    · simp [hb]

end Sys2Proof.Machine
end

