-- ==== Sys2Proof/Tests/Slice0.lean ====
section
/-! SUPPORT. Tests of one operation or one instruction each, with the expected results of the worked examples and
vectors of spec/95_test_vectors.md (named by their row) or written out from the encoding tables; and, for every
statement with hypotheses, a machine and operands that meet them. -/

namespace Sys2Proof.Machine

/-! ### Helpers -/

/-- A concrete choice of the parameters: the defaults of R11, 44100 Hz, and $EE for the two OPEN constants. -/
def testParams : Params where
  sampleRateIndex := 44099
  mixMode := .table
  xaaMagic := 0xEE#8
  lxaMagic := 0xEE#8
  shPolicy := .formula
  jamPolicy := .halt
  ctrlOpenBus := 0x40#8
  mapperIrqAck := .level
  resetScope := .cpuOnly

/-- The other policies: SH_POLICY = `refuse`, JAM_POLICY = `fault`. -/
def refusing : Params := { testParams with shPolicy := .refuse, jamPolicy := .fault }

/-- The parameters with another value for the two OPEN constants. -/
def withMagic (m : Nat) : Params := { testParams with xaaMagic := BitVec.ofNat 8 m, lxaMagic := BitVec.ofNat 8 m }

/-- The machine with another choice of the parameters. -/
def State.setParams (s : State) (k : Params) : State := { s with params := k }

/-- Bytes given as numbers, put into RAM or into the ROM of the test cartridge. -/
def place : List (Nat × Nat) → State → State
  | [], s => s
  | (a, v) :: rest, s =>
    match s.cart with
    | .board m =>
      if a < 0x2000 then place rest (s.setRam (Memory.store s.ram (a % 0x800) (BitVec.ofNat 8 v)))
      else place rest (s.setCart (.board { m with prg := Memory.store m.prg a (BitVec.ofNat 8 v) }))
    | _ => s

/-- The machine of section 2 of spec/95_test_vectors.md: the test cartridge, code at `pc`, bytes of memory, and the
registers A, X, Y, SP and P, at an instruction boundary. -/
def start (mem : List (Nat × Nat)) (pc : Nat) (code : List Nat) (a x y sp p : Nat) : State :=
  let rom := Cart.board { prg := storeBytes [] pc (code.map (BitVec.ofNat 8)), chr := [] }
  let c := { Cpu.powerOn with
    a := BitVec.ofNat 8 a, x := BitVec.ofNat 8 x, y := BitVec.ofNat 8 y, sp := BitVec.ofNat 8 sp
    p := BitVec.ofNat 8 p, pc := BitVec.ofNat 16 pc }
  place mem { State.reset with cpu := c, cart := rom, params := testParams }

/-- The outcome is a next state that passes a check. -/
def completes (o : Host.Outcome State Fault Refusal) (check : State → Bool) : Bool :=
  match o with
  | .next t => check t
  | .fault _ => false
  | .refused _ => false

/-- The outcome is the given refusal. -/
def refusesWith (r : Refusal) (o : Host.Outcome State Fault Refusal) : Bool :=
  match o with
  | .next _ => false
  | .fault _ => false
  | .refused q => q == r

/-- The outcome is the given fault. -/
def faultsWith (r : Fault) (o : Host.Outcome State Fault Refusal) : Bool :=
  match o with
  | .next _ => false
  | .fault q => q == r
  | .refused _ => false

/-- One instruction ends with the given registers, budget and writes to RAM, and no other. -/
def ends (s : State) (a x y sp p pc cycles : Nat) (writes : List (Nat × Nat)) : Bool :=
  completes (fetchExecute s) fun t =>
    t.cpu.a.toNat == a && t.cpu.x.toNat == x && t.cpu.y.toNat == y && t.cpu.sp.toNat == sp && t.cpu.p.toNat == p &&
    t.cpu.pc.toNat == pc && t.cpu.budget == cycles && t.ram == (place writes s).ram

/-! ### Well-formed codes (R63, R64, R72) -/

/-- No bytes: no opcode. -/
theorem test_wellFormed_refuses_empty : wellFormed [] = false := by decide

/-- LDA $hhll cut after its first operand byte: an operand is missing. -/
theorem test_wellFormed_refuses_truncated : wellFormed [0xAD#8, 0x00#8] = false := by decide

/-- INX with a byte too many. -/
theorem test_wellFormed_refuses_trailing : wellFormed [0xE8#8, 0x00#8] = false := by decide

/-- The three codes, cut and completed, are well formed. -/
theorem test_wellFormed_accepts :
    wellFormed [0xAD#8, 0x00#8, 0x02#8] = true ∧ wellFormed [0xE8#8] = true ∧ wellFormed [0xF2#8] = true := by decide

/-- Each check refuses its own ill-formed code and passes the other two. -/
theorem test_wellFormed_checks :
    hasOpcode [] = false ∧ hasOperands [] = true ∧ hasNothingMore [] = true ∧
    hasOpcode [0xAD#8, 0x00#8] = true ∧ hasOperands [0xAD#8, 0x00#8] = false ∧ hasNothingMore [0xAD#8, 0x00#8] = true ∧
    hasOpcode [0xE8#8, 0x00#8] = true ∧ hasOperands [0xE8#8, 0x00#8] = true ∧
    hasNothingMore [0xE8#8, 0x00#8] = false := by decide

/-! ### Decoding words written out bit by bit -/

/-- LDA $nn,X, a load: bytes 10110101 01000100 (R89, R67). -/
theorem test_decode_ldaZpx : decodeTableWord 16 0b0100010010110101 = some (.ldaZpx 0x44#8) := by decide

/-- STX $nn,Y, a store: bytes 10010110 11111111 (R93, R67). -/
theorem test_decode_stxZpy : decodeTableWord 16 0b1111111110010110 = some (.stxZpy 0xFF#8) := by decide

/-- TXS, a transfer: bytes 10011010 (R100, R67). -/
theorem test_decode_txs : decodeTableWord 8 0b10011010 = some (.txs) := by decide

/-- ADC $hhll,X, a arithmetic: bytes 01111101 11110000 00010010 (R105, R67). -/
theorem test_decode_adcAbx : decodeTableWord 24 0b000100101111000001111101 = some (.adcAbx 0x12F0#16) := by decide

/-- CMP ($nn),Y, a compare: bytes 11010001 10000110 (R110, R67). -/
theorem test_decode_cmpIzy : decodeTableWord 16 0b1000011011010001 = some (.cmpIzy 0x86#8) := by decide

/-- BIT $hhll, a bit test: bytes 00101100 00000010 00100000 (R113, R67). -/
theorem test_decode_bitAbs : decodeTableWord 24 0b001000000000001000101100 = some (.bitAbs 0x2002#16) := by decide

/-- ROL A, a shift: bytes 00101010 (R116, R67). -/
theorem test_decode_rolAcc : decodeTableWord 8 0b00101010 = some (.rolAcc) := by decide

/-- INC $hhll,X, a increment: bytes 11111110 00000001 10000000 (R118, R67). -/
theorem test_decode_incAbx : decodeTableWord 24 0b100000000000000111111110 = some (.incAbx 0x8001#16) := by decide

/-- BVS label, a branch: bytes 01110000 10000000 (R132, R67). -/
theorem test_decode_bvs : decodeTableWord 16 0b1000000001110000 = some (.bvs 0x80#8) := by decide

/-- JSR $hhll, a call: bytes 00100000 00001110 10000000 (R134, R67). -/
theorem test_decode_jsrAbs : decodeTableWord 24 0b100000000000111000100000 = some (.jsrAbs 0x800E#16) := by decide

/-- JMP ($hhll), a jump: bytes 01101100 11111111 00000010 (R133, R67). -/
theorem test_decode_jmpInd : decodeTableWord 24 0b000000101111111101101100 = some (.jmpInd 0x02FF#16) := by decide

/-- BRK, a software interrupt: bytes 00000000 (R137, R67). -/
theorem test_decode_brk : decodeTableWord 8 0b00000000 = some (.brk) := by decide

/-- RTI, a return from interrupt: bytes 01000000 (R136, R67). -/
theorem test_decode_rti : decodeTableWord 8 0b01000000 = some (.rti) := by decide

/-- PLP, a stack: bytes 00101000 (R141, R67). -/
theorem test_decode_plp : decodeTableWord 8 0b00101000 = some (.plp) := by decide

/-- SEI, a flag: bytes 01111000 (R145, R67). -/
theorem test_decode_sei : decodeTableWord 8 0b01111000 = some (.sei) := by decide

/-- NOP, a no operation: bytes 11101010 (R149, R67). -/
theorem test_decode_nop : decodeTableWord 8 0b11101010 = some (.nop) := by decide

/-- DCP ($nn,X), a undocumented read-modify-write: bytes 11000011 00010000 (R155, R67). -/
theorem test_decode_dcpIzx : decodeTableWord 16 0b0001000011000011 = some (.dcpIzx 0x10#8) := by decide

/-- LAR $hhll,Y, a undocumented load: bytes 10111011 00110100 00000010 (R165, R67). -/
theorem test_decode_larAby : decodeTableWord 24 0b000000100011010010111011 = some (.larAby 0x0234#16) := by decide

/-- AXS #$nn, a undocumented immediate: bytes 11001011 00000101 (R162, R67). -/
theorem test_decode_axsImm : decodeTableWord 16 0b0000010111001011 = some (.axsImm 0x05#8) := by decide

/-- SHY $hhll,X, a undocumented store: bytes 10011100 00000000 00000010 (R169, R67). -/
theorem test_decode_shyAbx : decodeTableWord 24 0b000000100000000010011100 = some (.shyAbx 0x0200#16) := by decide

/-- JAM, a jam: bytes 11110010 (R172, R67). -/
theorem test_decode_jamF2 : decodeTableWord 8 0b11110010 = some (.jamF2) := by decide

/-- NOP $nn,X, a undocumented no operation: bytes 00010100 00010000 (R171, R67). -/
theorem test_decode_nopZpx14 : decodeTableWord 16 0b0001000000010100 = some (.nopZpx14 0x10#8) := by decide

/-- A truncated code is refused by name. -/
theorem test_decode_truncated :
    decode [0x8D#8, 0x00#8] = .error (.truncated 0x8D#8) ∧ decode [] = .error .noOpcode := ⟨rfl, rfl⟩

/-- One instruction decoded leaves the bytes that follow. -/
theorem test_decode_rest : decode [0x85#8, 0x10#8, 0xEA#8] = .ok (.staZp 0x10#8, [0xEA#8]) := rfl

/-! ### One instruction (sections 2.1 to 2.7) -/

/-- AM6 of spec/95_test_vectors.md: abx cross: $12F0 + X=$20 = $1310 (RAM mirror $0310), +1 cycle. -/
theorem test_lda_am6 :
    ends (start [(0x0310, 0x42)] 0x8000 [0xBD, 0xF0, 0x12] 0x00 0x20 0x00 0xFD 0x24)
      0x42 0x20 0x00 0xFD 0x24 0x8003 5 [] = true := by decide

/-- AM7 of spec/95_test_vectors.md: abx wraps at $FFFF: $FFFF + X=1 = $0000, crossed. -/
theorem test_lda_am7 :
    ends (start [(0x0000, 0x11)] 0x8000 [0xBD, 0xFF, 0xFF] 0x00 0x01 0x00 0xFD 0x24)
      0x11 0x01 0x00 0xFD 0x24 0x8003 5 [] = true := by decide

/-- AM9 of spec/95_test_vectors.md: ind page-wrap bug: JMP ($02FF) reads $02FF and $0200. -/
theorem test_jmp_am9 :
    ends (start [(0x0200, 0x12), (0x02FF, 0x34), (0x0300, 0x99)] 0x8000 [0x6C, 0xFF, 0x02] 0x00 0x00 0x00 0xFD 0x24)
      0x00 0x00 0x00 0xFD 0x24 0x1234 5 [] = true := by decide

/-- AM11 of spec/95_test_vectors.md: izx pointer wraps: ($FF,X) X=0 reads $00FF and $0000. -/
theorem test_lda_am11 :
    ends (start [(0x0000, 0x04), (0x00FF, 0x00), (0x0400, 0x6D)] 0x8000 [0xA1, 0xFF] 0x00 0x00 0x00 0xFD 0x24)
      0x6D 0x00 0x00 0xFD 0x24 0x8002 6 [] = true := by decide

/-- AM14 of spec/95_test_vectors.md: izy cross: pointer $03F0 + Y=$20 = $0410, +1 cycle. -/
theorem test_lda_am14 :
    ends (start [(0x0086, 0xF0), (0x0087, 0x03), (0x0410, 0x45)] 0x8000 [0xB1, 0x86] 0x00 0x00 0x20 0xFD 0x24)
      0x45 0x00 0x20 0xFD 0x24 0x8002 6 [] = true := by decide

/-- AM20 of spec/95_test_vectors.md: rel wraps: BEQ +$10 at $FFF0, next $FFF2 -> $0002, other page. -/
theorem test_beq_am20 :
    ends (start [] 0xFFF0 [0xF0, 0x10] 0x00 0x00 0x00 0xFD 0x26)
      0x00 0x00 0x00 0xFD 0x26 0x0002 4 [] = true := by decide

/-- LS4 of spec/95_test_vectors.md: LDX #$00. -/
theorem test_ldx_ls4 :
    ends (start [] 0x8000 [0xA2, 0x00] 0x00 0x09 0x00 0xFD 0x24)
      0x00 0x00 0x00 0xFD 0x26 0x8002 2 [] = true := by decide

/-- LS7 of spec/95_test_vectors.md: LDY #$FF. -/
theorem test_ldy_ls7 :
    ends (start [] 0x8000 [0xA0, 0xFF] 0x00 0x00 0x00 0xFD 0x24)
      0x00 0x00 0xFF 0xFD 0xA4 0x8002 2 [] = true := by decide

/-- LS9 of spec/95_test_vectors.md: STA $0200. -/
theorem test_sta_ls9 :
    ends (start [] 0x8000 [0x8D, 0x00, 0x02] 0x42 0x00 0x00 0xFD 0x24)
      0x42 0x00 0x00 0xFD 0x24 0x8003 4 [(0x0200, 0x42)] = true := by decide

/-- LS13 of spec/95_test_vectors.md: STX $10. -/
theorem test_stx_ls13 :
    ends (start [] 0x8000 [0x86, 0x10] 0x00 0x07 0x00 0xFD 0x24)
      0x00 0x07 0x00 0xFD 0x24 0x8002 3 [(0x0010, 0x07)] = true := by decide

/-- LS15 of spec/95_test_vectors.md: STY $FF,X wraps to $0001. -/
theorem test_sty_ls15 :
    ends (start [] 0x8000 [0x94, 0xFF] 0x00 0x02 0x09 0xFD 0x24)
      0x00 0x02 0x09 0xFD 0x24 0x8002 4 [(0x0001, 0x09)] = true := by decide

/-- LS16 of spec/95_test_vectors.md: TAX of 0. -/
theorem test_tax_ls16 :
    ends (start [] 0x8000 [0xAA] 0x00 0x05 0x00 0xFD 0x24)
      0x00 0x00 0x00 0xFD 0x26 0x8001 2 [] = true := by decide

/-- LS17 of spec/95_test_vectors.md: TAY of $90. -/
theorem test_tay_ls17 :
    ends (start [] 0x8000 [0xA8] 0x90 0x00 0x00 0xFD 0x24)
      0x90 0x00 0x90 0xFD 0xA4 0x8001 2 [] = true := by decide

/-- LS18 of spec/95_test_vectors.md: TXA of $01. -/
theorem test_txa_ls18 :
    ends (start [] 0x8000 [0x8A] 0xFF 0x01 0x00 0xFD 0x24)
      0x01 0x01 0x00 0xFD 0x24 0x8001 2 [] = true := by decide

/-- LS19 of spec/95_test_vectors.md: TYA of $FF. -/
theorem test_tya_ls19 :
    ends (start [] 0x8000 [0x98] 0x00 0x00 0xFF 0xFD 0x24)
      0xFF 0x00 0xFF 0xFD 0xA4 0x8001 2 [] = true := by decide

/-- LS20 of spec/95_test_vectors.md: TSX of $FD sets N. -/
theorem test_tsx_ls20 :
    ends (start [] 0x8000 [0xBA] 0x00 0x00 0x00 0xFD 0x24)
      0x00 0xFD 0x00 0xFD 0xA4 0x8001 2 [] = true := by decide

/-- LS21 of spec/95_test_vectors.md: TXS sets no flag. -/
theorem test_txs_ls21 :
    ends (start [] 0x8000 [0x9A] 0x00 0x00 0x00 0xFD 0xA4)
      0x00 0x00 0x00 0x00 0xA4 0x8001 2 [] = true := by decide

/-- AR1 of spec/95_test_vectors.md: ADC $50+$50 C=0: V, N. -/
theorem test_adc_ar1 :
    ends (start [] 0x8000 [0x69, 0x50] 0x50 0x00 0x00 0xFD 0x24)
      0xA0 0x00 0x00 0xFD 0xE4 0x8002 2 [] = true := by decide

/-- AR2 of spec/95_test_vectors.md: ADC $7F+$01 C=0: V. -/
theorem test_adc_ar2 :
    ends (start [] 0x8000 [0x69, 0x01] 0x7F 0x00 0x00 0xFD 0x24)
      0x80 0x00 0x00 0xFD 0xE4 0x8002 2 [] = true := by decide

/-- AR9 of spec/95_test_vectors.md: SBC $50-$30 C=1. -/
theorem test_sbc_ar9 :
    ends (start [] 0x8000 [0xE9, 0x30] 0x50 0x00 0x00 0xFD 0x25)
      0x20 0x00 0x00 0xFD 0x25 0x8002 2 [] = true := by decide

/-- AR10 of spec/95_test_vectors.md: SBC $00-$01 C=1: borrow. -/
theorem test_sbc_ar10 :
    ends (start [] 0x8000 [0xE9, 0x01] 0x00 0x00 0x00 0xFD 0x25)
      0xFF 0x00 0x00 0xFD 0xA4 0x8002 2 [] = true := by decide

/-- AR16 of spec/95_test_vectors.md: AND #$3C. -/
theorem test_and_ar16 :
    ends (start [] 0x8000 [0x29, 0x3C] 0xF0 0x00 0x00 0xFD 0x24)
      0x30 0x00 0x00 0xFD 0x24 0x8002 2 [] = true := by decide

/-- AR18 of spec/95_test_vectors.md: ORA #$00 of 0. -/
theorem test_ora_ar18 :
    ends (start [] 0x8000 [0x09, 0x00] 0x00 0x00 0x00 0xFD 0x24)
      0x00 0x00 0x00 0xFD 0x26 0x8002 2 [] = true := by decide

/-- AR20 of spec/95_test_vectors.md: EOR #$FF complements. -/
theorem test_eor_ar20 :
    ends (start [] 0x8000 [0x49, 0xFF] 0x0F 0x00 0x00 0xFD 0x24)
      0xF0 0x00 0x00 0xFD 0xA4 0x8002 2 [] = true := by decide

/-- AR22 of spec/95_test_vectors.md: CMP equal. -/
theorem test_cmp_ar22 :
    ends (start [] 0x8000 [0xC9, 0x40] 0x40 0x00 0x00 0xFD 0x24)
      0x40 0x00 0x00 0xFD 0x27 0x8002 2 [] = true := by decide

/-- AR23 of spec/95_test_vectors.md: CMP $01 vs $FF: C=0, N=0. -/
theorem test_cmp_ar23 :
    ends (start [] 0x8000 [0xC9, 0xFF] 0x01 0x00 0x00 0xFD 0x24)
      0x01 0x00 0x00 0xFD 0x24 0x8002 2 [] = true := by decide

/-- AR26 of spec/95_test_vectors.md: CPX $05 vs $06. -/
theorem test_cpx_ar26 :
    ends (start [] 0x8000 [0xE0, 0x06] 0x00 0x05 0x00 0xFD 0x24)
      0x00 0x05 0x00 0xFD 0xA4 0x8002 2 [] = true := by decide

/-- AR27 of spec/95_test_vectors.md: CPY $10 vs $08. -/
theorem test_cpy_ar27 :
    ends (start [] 0x8000 [0xC0, 0x08] 0x00 0x00 0x10 0xFD 0x24)
      0x00 0x00 0x10 0xFD 0x25 0x8002 2 [] = true := by decide

/-- AR28 of spec/95_test_vectors.md: BIT $10: Z from AND, N V from memory. -/
theorem test_bit_ar28 :
    ends (start [(0x0010, 0xC0)] 0x8000 [0x24, 0x10] 0x01 0x00 0x00 0xFD 0x24)
      0x01 0x00 0x00 0xFD 0xE6 0x8002 3 [] = true := by decide

/-- AR29 of spec/95_test_vectors.md: BIT $0200: nonzero AND, bits 7,6 clear. -/
theorem test_bit_ar29 :
    ends (start [(0x0200, 0x01)] 0x8000 [0x2C, 0x00, 0x02] 0xFF 0x00 0x00 0xFD 0xE4)
      0xFF 0x00 0x00 0xFD 0x24 0x8003 4 [] = true := by decide

/-- SR1 of spec/95_test_vectors.md: ASL A $41. -/
theorem test_asl_sr1 :
    ends (start [] 0x8000 [0x0A] 0x41 0x00 0x00 0xFD 0x24)
      0x82 0x00 0x00 0xFD 0xA4 0x8001 2 [] = true := by decide

/-- SR5 of spec/95_test_vectors.md: LSR A $81. -/
theorem test_lsr_sr5 :
    ends (start [] 0x8000 [0x4A] 0x81 0x00 0x00 0xFD 0x24)
      0x40 0x00 0x00 0xFD 0x25 0x8001 2 [] = true := by decide

/-- SR7 of spec/95_test_vectors.md: ROL A $40 C=1. -/
theorem test_rol_sr7 :
    ends (start [] 0x8000 [0x2A] 0x40 0x00 0x00 0xFD 0x25)
      0x81 0x00 0x00 0xFD 0xA4 0x8001 2 [] = true := by decide

/-- SR9 of spec/95_test_vectors.md: ROR A $02 C=1. -/
theorem test_ror_sr9 :
    ends (start [] 0x8000 [0x6A] 0x02 0x00 0x00 0xFD 0x25)
      0x81 0x00 0x00 0xFD 0xA4 0x8001 2 [] = true := by decide

/-- SR10 of spec/95_test_vectors.md: ROR A $01 C=0: Z, C. -/
theorem test_ror_sr10 :
    ends (start [] 0x8000 [0x6A] 0x01 0x00 0x00 0xFD 0x24)
      0x00 0x00 0x00 0xFD 0x27 0x8001 2 [] = true := by decide

/-- SR12 of spec/95_test_vectors.md: INC $10 $FF wraps, C kept. -/
theorem test_inc_sr12 :
    ends (start [(0x0010, 0xFF)] 0x8000 [0xE6, 0x10] 0x00 0x00 0x00 0xFD 0x25)
      0x00 0x00 0x00 0xFD 0x27 0x8002 5 [(0x0010, 0x00)] = true := by decide

/-- SR14 of spec/95_test_vectors.md: DEC $0200 $01. -/
theorem test_dec_sr14 :
    ends (start [(0x0200, 0x01)] 0x8000 [0xCE, 0x00, 0x02] 0x00 0x00 0x00 0xFD 0x24)
      0x00 0x00 0x00 0xFD 0x26 0x8003 6 [(0x0200, 0x00)] = true := by decide

/-- SR16 of spec/95_test_vectors.md: INX $7F. -/
theorem test_inx_sr16 :
    ends (start [] 0x8000 [0xE8] 0x00 0x7F 0x00 0xFD 0x24)
      0x00 0x80 0x00 0xFD 0xA4 0x8001 2 [] = true := by decide

/-- SR18 of spec/95_test_vectors.md: INY $FF. -/
theorem test_iny_sr18 :
    ends (start [] 0x8000 [0xC8] 0x00 0x00 0xFF 0xFD 0x24)
      0x00 0x00 0x00 0xFD 0x26 0x8001 2 [] = true := by decide

/-- SR19 of spec/95_test_vectors.md: DEX $01. -/
theorem test_dex_sr19 :
    ends (start [] 0x8000 [0xCA] 0x00 0x01 0x00 0xFD 0x24)
      0x00 0x00 0x00 0xFD 0x26 0x8001 2 [] = true := by decide

/-- SR21 of spec/95_test_vectors.md: DEY $00. -/
theorem test_dey_sr21 :
    ends (start [] 0x8000 [0x88] 0x00 0x00 0x00 0xFD 0x24)
      0x00 0x00 0xFF 0xFD 0xA4 0x8001 2 [] = true := by decide

/-- CT1 of spec/95_test_vectors.md: BCC taken, same page. -/
theorem test_bcc_ct1 :
    ends (start [] 0x8000 [0x90, 0x04] 0x00 0x00 0x00 0xFD 0x24)
      0x00 0x00 0x00 0xFD 0x24 0x8006 3 [] = true := by decide

/-- CT3 of spec/95_test_vectors.md: BCS not taken. -/
theorem test_bcs_ct3 :
    ends (start [] 0x8000 [0xB0, 0x04] 0x00 0x00 0x00 0xFD 0x24)
      0x00 0x00 0x00 0xFD 0x24 0x8002 2 [] = true := by decide

/-- CT7 of spec/95_test_vectors.md: BNE -2: branch to itself. -/
theorem test_bne_ct7 :
    ends (start [] 0x8010 [0xD0, 0xFE] 0x00 0x00 0x00 0xFD 0x24)
      0x00 0x00 0x00 0xFD 0x24 0x8010 3 [] = true := by decide

/-- CT9 of spec/95_test_vectors.md: BMI +$10 at $C000. -/
theorem test_bmi_ct9 :
    ends (start [] 0xC000 [0x30, 0x10] 0x00 0x00 0x00 0xFD 0xA4)
      0x00 0x00 0x00 0xFD 0xA4 0xC012 3 [] = true := by decide

/-- CT11 of spec/95_test_vectors.md: BPL taken. -/
theorem test_bpl_ct11 :
    ends (start [] 0x8000 [0x10, 0x02] 0x00 0x00 0x00 0xFD 0x24)
      0x00 0x00 0x00 0xFD 0x24 0x8004 3 [] = true := by decide

/-- CT13 of spec/95_test_vectors.md: BVC taken. -/
theorem test_bvc_ct13 :
    ends (start [] 0x8000 [0x50, 0x02] 0x00 0x00 0x00 0xFD 0x24)
      0x00 0x00 0x00 0xFD 0x24 0x8004 3 [] = true := by decide

/-- CT14 of spec/95_test_vectors.md: BVS not taken. -/
theorem test_bvs_ct14 :
    ends (start [] 0x8000 [0x70, 0x02] 0x00 0x00 0x00 0xFD 0x24)
      0x00 0x00 0x00 0xFD 0x24 0x8002 2 [] = true := by decide

/-- CT19 of spec/95_test_vectors.md: JSR $9000. -/
theorem test_jsr_ct19 :
    ends (start [] 0x8000 [0x20, 0x00, 0x90] 0x00 0x00 0x00 0xFD 0x24)
      0x00 0x00 0x00 0xFB 0x24 0x9000 6 [(0x01FD, 0x80), (0x01FC, 0x02)] = true := by decide

/-- CT20 of spec/95_test_vectors.md: JSR with SP=$00 wraps the pushes. -/
theorem test_jsr_ct20 :
    ends (start [] 0x8000 [0x20, 0x00, 0x90] 0x00 0x00 0x00 0x00 0x24)
      0x00 0x00 0x00 0xFE 0x24 0x9000 6 [(0x0100, 0x80), (0x01FF, 0x02)] = true := by decide

/-- CT21 of spec/95_test_vectors.md: RTS. -/
theorem test_rts_ct21 :
    ends (start [(0x01FC, 0x02), (0x01FD, 0x80)] 0x8000 [0x60] 0x00 0x00 0x00 0xFB 0x24)
      0x00 0x00 0x00 0xFD 0x24 0x8003 6 [] = true := by decide

/-- CT23 of spec/95_test_vectors.md: RTI. -/
theorem test_rti_ct23 :
    ends (start [(0x01FB, 0xA3), (0x01FC, 0x34), (0x01FD, 0x12)] 0x8000 [0x40] 0x00 0x00 0x00 0xFA 0x24)
      0x00 0x00 0x00 0xFD 0xA3 0x1234 6 [] = true := by decide

/-- CT24 of spec/95_test_vectors.md: RTI forces B=0, U=1. -/
theorem test_rti_ct24 :
    ends (start [(0x01FB, 0xDF), (0x01FC, 0x00), (0x01FD, 0x90)] 0x8000 [0x40] 0x00 0x00 0x00 0xFA 0x24)
      0x00 0x00 0x00 0xFD 0xEF 0x9000 6 [] = true := by decide

/-- CT25 of spec/95_test_vectors.md: BRK with vector $9000. -/
theorem test_brk_ct25 :
    ends (start [(0xFFFE, 0x00), (0xFFFF, 0x90)] 0x8000 [0x00] 0x00 0x00 0x00 0xFD 0x24)
      0x00 0x00 0x00 0xFA 0x24 0x9000 7 [(0x01FD, 0x80), (0x01FC, 0x02), (0x01FB, 0x34)] = true := by decide

/-- CT26 of spec/95_test_vectors.md: BRK with I=0 and D=1: pushed $3C, I set. -/
theorem test_brk_ct26 :
    ends (start [(0xFFFE, 0x00), (0xFFFF, 0x90)] 0x8000 [0x00] 0x00 0x00 0x00 0xFD 0x28)
      0x00 0x00 0x00 0xFA 0x2C 0x9000 7 [(0x01FD, 0x80), (0x01FC, 0x02), (0x01FB, 0x38)] = true := by decide

/-- SF1 of spec/95_test_vectors.md: PHA. -/
theorem test_pha_sf1 :
    ends (start [] 0x8000 [0x48] 0x5A 0x00 0x00 0xFD 0x24)
      0x5A 0x00 0x00 0xFC 0x24 0x8001 3 [(0x01FD, 0x5A)] = true := by decide

/-- SF3 of spec/95_test_vectors.md: PHP pushes B=1, U=1. -/
theorem test_php_sf3 :
    ends (start [] 0x8000 [0x08] 0x00 0x00 0x00 0xFD 0x24)
      0x00 0x00 0x00 0xFC 0x24 0x8001 3 [(0x01FD, 0x34)] = true := by decide

/-- SF5 of spec/95_test_vectors.md: PLA of $00. -/
theorem test_pla_sf5 :
    ends (start [(0x01FD, 0x00)] 0x8000 [0x68] 0x33 0x00 0x00 0xFC 0x24)
      0x00 0x00 0x00 0xFD 0x26 0x8001 4 [] = true := by decide

/-- SF7 of spec/95_test_vectors.md: PLP of $FF. -/
theorem test_plp_sf7 :
    ends (start [(0x01FD, 0xFF)] 0x8000 [0x28] 0x00 0x00 0x00 0xFC 0x24)
      0x00 0x00 0x00 0xFD 0xEF 0x8001 4 [] = true := by decide

/-- SF9 of spec/95_test_vectors.md: CLC. -/
theorem test_clc_sf9 :
    ends (start [] 0x8000 [0x18] 0x00 0x00 0x00 0xFD 0x25)
      0x00 0x00 0x00 0xFD 0x24 0x8001 2 [] = true := by decide

/-- SF10 of spec/95_test_vectors.md: SEC. -/
theorem test_sec_sf10 :
    ends (start [] 0x8000 [0x38] 0x00 0x00 0x00 0xFD 0x24)
      0x00 0x00 0x00 0xFD 0x25 0x8001 2 [] = true := by decide

/-- SF11 of spec/95_test_vectors.md: CLI. -/
theorem test_cli_sf11 :
    ends (start [] 0x8000 [0x58] 0x00 0x00 0x00 0xFD 0x24)
      0x00 0x00 0x00 0xFD 0x20 0x8001 2 [] = true := by decide

/-- SF12 of spec/95_test_vectors.md: SEI. -/
theorem test_sei_sf12 :
    ends (start [] 0x8000 [0x78] 0x00 0x00 0x00 0xFD 0x20)
      0x00 0x00 0x00 0xFD 0x24 0x8001 2 [] = true := by decide

/-- SF13 of spec/95_test_vectors.md: CLD. -/
theorem test_cld_sf13 :
    ends (start [] 0x8000 [0xD8] 0x00 0x00 0x00 0xFD 0x2C)
      0x00 0x00 0x00 0xFD 0x24 0x8001 2 [] = true := by decide

/-- SF14 of spec/95_test_vectors.md: SED. -/
theorem test_sed_sf14 :
    ends (start [] 0x8000 [0xF8] 0x00 0x00 0x00 0xFD 0x24)
      0x00 0x00 0x00 0xFD 0x2C 0x8001 2 [] = true := by decide

/-- SF15 of spec/95_test_vectors.md: CLV. -/
theorem test_clv_sf15 :
    ends (start [] 0x8000 [0xB8] 0x00 0x00 0x00 0xFD 0x64)
      0x00 0x00 0x00 0xFD 0x24 0x8001 2 [] = true := by decide

/-- SF16 of spec/95_test_vectors.md: NOP $EA. -/
theorem test_nop_sf16 :
    ends (start [] 0x8000 [0xEA] 0x01 0x00 0x00 0xFD 0xE7)
      0x01 0x00 0x00 0xFD 0xE7 0x8001 2 [] = true := by decide

/-- U1 of spec/95_test_vectors.md: SLO $10. -/
theorem test_slo_u1 :
    ends (start [(0x0010, 0x81)] 0x8000 [0x07, 0x10] 0x00 0x00 0x00 0xFD 0x24)
      0x02 0x00 0x00 0xFD 0x25 0x8002 5 [(0x0010, 0x02)] = true := by decide

/-- U3 of spec/95_test_vectors.md: RLA $10 C=1. -/
theorem test_rla_u3 :
    ends (start [(0x0010, 0x40)] 0x8000 [0x27, 0x10] 0xFF 0x00 0x00 0xFD 0x25)
      0x81 0x00 0x00 0xFD 0xA4 0x8002 5 [(0x0010, 0x81)] = true := by decide

/-- U4 of spec/95_test_vectors.md: SRE $10. -/
theorem test_sre_u4 :
    ends (start [(0x0010, 0x03)] 0x8000 [0x47, 0x10] 0x01 0x00 0x00 0xFD 0x24)
      0x00 0x00 0x00 0xFD 0x27 0x8002 5 [(0x0010, 0x01)] = true := by decide

/-- U5 of spec/95_test_vectors.md: RRA $10: ADC uses the rotate's carry. -/
theorem test_rra_u5 :
    ends (start [(0x0010, 0x03)] 0x8000 [0x67, 0x10] 0x10 0x00 0x00 0xFD 0x24)
      0x12 0x00 0x00 0xFD 0x24 0x8002 5 [(0x0010, 0x01)] = true := by decide

/-- U6 of spec/95_test_vectors.md: RRA $10 overflow. -/
theorem test_rra_u6 :
    ends (start [(0x0010, 0x02)] 0x8000 [0x67, 0x10] 0x7F 0x00 0x00 0xFD 0x24)
      0x80 0x00 0x00 0xFD 0xE4 0x8002 5 [(0x0010, 0x01)] = true := by decide

/-- U7 of spec/95_test_vectors.md: DCP $10 equal. -/
theorem test_dcp_u7 :
    ends (start [(0x0010, 0x41)] 0x8000 [0xC7, 0x10] 0x40 0x00 0x00 0xFD 0x24)
      0x40 0x00 0x00 0xFD 0x27 0x8002 5 [(0x0010, 0x40)] = true := by decide

/-- U9 of spec/95_test_vectors.md: ISC $10 C=1. -/
theorem test_isc_u9 :
    ends (start [(0x0010, 0x0F)] 0x8000 [0xE7, 0x10] 0x20 0x00 0x00 0xFD 0x25)
      0x10 0x00 0x00 0xFD 0x25 0x8002 5 [(0x0010, 0x10)] = true := by decide

/-- U10 of spec/95_test_vectors.md: ISC $10 of $FF wraps to $00. -/
theorem test_isc_u10 :
    ends (start [(0x0010, 0xFF)] 0x8000 [0xE7, 0x10] 0x20 0x00 0x00 0xFD 0x25)
      0x20 0x00 0x00 0xFD 0x25 0x8002 5 [(0x0010, 0x00)] = true := by decide

/-- U11 of spec/95_test_vectors.md: SAX $10. -/
theorem test_sax_u11 :
    ends (start [] 0x8000 [0x87, 0x10] 0xF0 0x3C 0x00 0xFD 0x24)
      0xF0 0x3C 0x00 0xFD 0x24 0x8002 3 [(0x0010, 0x30)] = true := by decide

/-- U13 of spec/95_test_vectors.md: LAX $10. -/
theorem test_lax_u13 :
    ends (start [(0x0010, 0x80)] 0x8000 [0xA7, 0x10] 0x00 0x00 0x00 0xFD 0x24)
      0x80 0x80 0x00 0xFD 0xA4 0x8002 3 [] = true := by decide

/-- U15 of spec/95_test_vectors.md: ANC #$80. -/
theorem test_anc_u15 :
    ends (start [] 0x8000 [0x0B, 0x80] 0xFF 0x00 0x00 0xFD 0x24)
      0x80 0x00 0x00 0xFD 0xA5 0x8002 2 [] = true := by decide

/-- U17 of spec/95_test_vectors.md: ALR #$03. -/
theorem test_alr_u17 :
    ends (start [] 0x8000 [0x4B, 0x03] 0xFF 0x00 0x00 0xFD 0x24)
      0x01 0x00 0x00 0xFD 0x25 0x8002 2 [] = true := by decide

/-- U18 of spec/95_test_vectors.md: ARR #$FF C=1. -/
theorem test_arr_u18 :
    ends (start [] 0x8000 [0x6B, 0xFF] 0xFF 0x00 0x00 0xFD 0x25)
      0xFF 0x00 0x00 0xFD 0xA5 0x8002 2 [] = true := by decide

/-- U19 of spec/95_test_vectors.md: ARR #$FF C=0: $7F, C=1 from bit 6, V=0. -/
theorem test_arr_u19 :
    ends (start [] 0x8000 [0x6B, 0xFF] 0xFF 0x00 0x00 0xFD 0x24)
      0x7F 0x00 0x00 0xFD 0x25 0x8002 2 [] = true := by decide

/-- U21 of spec/95_test_vectors.md: AXS #$10. -/
theorem test_axs_u21 :
    ends (start [] 0x8000 [0xCB, 0x10] 0xFF 0x0F 0x00 0xFD 0x24)
      0xFF 0xFF 0x00 0xFD 0xA4 0x8002 2 [] = true := by decide

/-- U23 of spec/95_test_vectors.md: XAA #$FF, XAA_MAGIC=$EE. -/
theorem test_xaa_u23 :
    ends (start [] 0x8000 [0x8B, 0xFF] 0x11 0xF0 0x00 0xFD 0x24)
      0xF0 0xF0 0x00 0xFD 0xA4 0x8002 2 [] = true := by decide

/-- U25 of spec/95_test_vectors.md: LXA #$3C, LXA_MAGIC=$FF. -/
theorem test_lxa_u25 :
    ends (start [] 0x8000 [0xAB, 0x3C] 0x00 0x00 0x00 0xFD 0x24 |>.setParams (withMagic 0xFF))
      0x3C 0x3C 0x00 0xFD 0x24 0x8002 2 [] = true := by decide

/-- U27 of spec/95_test_vectors.md: LAR $0234,Y. -/
theorem test_lar_u27 :
    ends (start [(0x0234, 0x3F)] 0x8000 [0xBB, 0x34, 0x02] 0x00 0x00 0x00 0xF0 0x24)
      0x30 0x30 0x00 0x30 0x24 0x8003 4 [] = true := by decide

/-- U28 of spec/95_test_vectors.md: AHX $1200,Y. -/
theorem test_ahx_u28 :
    ends (start [] 0x8000 [0x9F, 0x00, 0x12] 0xFF 0xFF 0x00 0xFD 0x24)
      0xFF 0xFF 0x00 0xFD 0x24 0x8003 5 [(0x1200, 0x13)] = true := by decide

/-- U31 of spec/95_test_vectors.md: SHX $02F8,Y crossed: high byte replaced. -/
theorem test_shx_u31 :
    ends (start [] 0x8000 [0x9E, 0xF8, 0x02] 0x00 0x01 0x10 0xFD 0x24)
      0x00 0x01 0x10 0xFD 0x24 0x8003 5 [(0x0108, 0x01)] = true := by decide

/-- U32 of spec/95_test_vectors.md: SHY $0200,X. -/
theorem test_shy_u32 :
    ends (start [] 0x8000 [0x9C, 0x00, 0x02] 0x00 0x00 0xFF 0xFD 0x24)
      0x00 0x00 0xFF 0xFD 0x24 0x8003 5 [(0x0200, 0x03)] = true := by decide

/-- U33 of spec/95_test_vectors.md: TAS $0200,Y. -/
theorem test_tas_u33 :
    ends (start [] 0x8000 [0x9B, 0x00, 0x02] 0xF3 0x3F 0x00 0xFD 0x24)
      0xF3 0x3F 0x00 0x33 0x24 0x8003 5 [(0x0200, 0x03)] = true := by decide

/-- U34 of spec/95_test_vectors.md: SHX under SH_POLICY=refuse. -/
theorem test_shx_u34 :
    refusesWith (.unstableStore 0x9E#8) (fetchExecute (start [] 0x8000 [0x9E, 0x00, 0x02] 0x00 0xFF 0x00 0xFD 0x24 |>.setParams refusing)) = true := by decide

/-- U39 of spec/95_test_vectors.md: JAM $02 under JAM_POLICY=halt. -/
theorem test_jam_u39 :
    completes (fetchExecute (start [] 0x8000 [0x02] 0x00 0x00 0x00 0xFD 0x24)) (fun t => t.cpu.jammed && t.cpu.pc == 0x8001#16) = true := by decide

/-- U40 of spec/95_test_vectors.md: JAM $F2 under JAM_POLICY=fault. -/
theorem test_jam_u40 :
    faultsWith (.jam 0xF2#8) (fetchExecute (start [] 0x8000 [0xF2] 0x00 0x00 0x00 0xFD 0x24 |>.setParams refusing)) = true := by decide

/-! ### PPU (section 2.8) -/

/-- The test machine with nothing in its memories. -/
def blank : State := start [] 0x8000 [] 0 0 0 0xFD 0x24

/-- The blank machine with another PPU. -/
def withPpu (f : Ppu → Ppu) : State := { blank with ppu := f blank.ppu }

/-- PP1: a $2000 write. -/
theorem test_ppu_pp1 :
    (memWrite blank 0x2000#16 3).ppu.ctrl = 3 ∧ (memWrite blank 0x2000#16 3).ppu.t = 0x0C00#15 := by decide

/-- PP2: the two $2005 writes. -/
theorem test_ppu_pp2 :
    (memWrite (memWrite blank 0x2005#16 0x7D#8) 0x2005#16 0x5E#8).ppu.t = 0x616F#15 ∧
    (memWrite (memWrite blank 0x2005#16 0x7D#8) 0x2005#16 0x5E#8).ppu.x = 5#3 := by decide

/-- PP4: a first $2006 write clears bit 14 of `t`. -/
theorem test_ppu_pp4 : (memWrite (withPpu fun p => { p with t := 0x7FFF#15 }) 0x2006#16 0xFF#8).ppu.t = 0x3FFF#15 := by
  decide

/-- PP5: the latch `w` is shared by $2005 and $2006. -/
theorem test_ppu_pp5 :
    (memWrite (memWrite blank 0x2006#16 0x21#8) 0x2005#16 0x08#8).ppu.t = 0x0020#15 ∧
    (memWrite (memWrite blank 0x2006#16 0x21#8) 0x2005#16 0x08#8).ppu.w = false := by decide

/-- PP7: a palette read is not buffered and refills the buffer from the nametable below it. -/
theorem test_ppu_pp7 :
    (memRead (withPpu fun p => { p with pal := [(1, 0x2A#6)], nt := [(1024 + 0x301, 0x77#8)], v := 0x3F01#15 })
      0x2007#16).1 = 0x2A#8 ∧
    (memRead (withPpu fun p => { p with pal := [(1, 0x2A#6)], nt := [(1024 + 0x301, 0x77#8)], v := 0x3F01#15 })
      0x2007#16).2.ppu.readBuffer = 0x77#8 := by decide

/-- PP10: $3F10 is palette entry 0, and six bits are kept. -/
theorem test_ppu_pp10 :
    (memWrite (withPpu fun p => { p with v := 0x3F10#15 }) 0x2007#16 0xFF#8).ppu.pal = [(0, 0x3F#6)] := by decide

/-- PP12: `v` is 15 bits wide, a PPU address 14. -/
theorem test_ppu_pp12 :
    (memWrite (withPpu fun p => { p with v := 0x7FFF#15 }) 0x2007#16 1).ppu.pal = [(0x1F, 1#6)] ∧
    (memWrite (withPpu fun p => { p with v := 0x7FFF#15 }) 0x2007#16 1).ppu.v = 0#15 := by decide

/-- PP13: a $2002 read clears vblank and `w`. -/
theorem test_ppu_pp13 :
    (memRead (withPpu fun p => { p with status := 0xE0#8, w := true }) 0x2002#16).1 = 0xE0#8 ∧
    (memRead (withPpu fun p => { p with status := 0xE0#8, w := true }) 0x2002#16).2.ppu.status = 0x60#8 := by decide

/-- PP15: attribute bits 4:2 of the OAM are dropped. -/
theorem test_ppu_pp15 :
    (memWrite (memWrite blank 0x2003#16 2) 0x2004#16 0xFF#8).ppu.oam = [(2, 0xE3#8)] ∧
    (memWrite (memWrite blank 0x2003#16 2) 0x2004#16 0xFF#8).ppu.oamAddr = 3 := by decide

/-- PP17, PP18, PP23: horizontal mirroring and the mirror at $3000. -/
theorem test_ppu_pp17 :
    nametableKey .absent 0x2400#14 = 0 ∧ nametableKey .absent 0x2800#14 = 1024 ∧ nametableKey .absent 0x3000#14 = 0 := by
  decide

/-- PP19 to PP22: the table of quadrants 2, 3, 3 and 0 in the other three modes. -/
theorem test_ppu_pp19 :
    physicalTable .vertical 2 = 0 ∧ physicalTable .vertical 3 = 1 ∧ physicalTable .oneScreenLo 3 = 0 ∧
    physicalTable .oneScreenHi 0 = 1 := by decide

/-- PP24 to PP26: increment X. -/
theorem test_ppu_pp24 :
    incCoarseX 0x001F#15 = 0x0400#15 ∧ incCoarseX 0x041F#15 = 0#15 ∧ incCoarseX 5#15 = 6#15 := by decide

/-- PP27 to PP32: increment Y. -/
theorem test_ppu_pp27 :
    incY 0#15 = 0x1000#15 ∧ incY 0x7000#15 = 0x0020#15 ∧ incY 0x73A0#15 = 0x0800#15 ∧ incY 0x7BA0#15 = 0#15 ∧
    incY 0x73E0#15 = 0#15 ∧ incY 0x7380#15 = 0x03A0#15 := by decide

/-- PP33 and PP34: the two transfers. -/
theorem test_ppu_pp33 :
    (transferX { Ppu.powerOn with v := 0x7BFF#15, t := 0x0400#15 }).v = 0x7FE0#15 ∧
    (transferY { Ppu.powerOn with v := 0x7FFF#15 }).v = 0x041F#15 := by decide

/-- PP35 to PP38: the attribute address and shift. -/
theorem test_ppu_pp35 :
    attributeAddress 0x0042#15 = 0x23C0#14 ∧ attributeShift 0#15 = 0 ∧ attributeShift 2#15 = 2 ∧
    attributeShift 0x40#15 = 4 ∧ attributeShift 0x42#15 = 6 := by decide

/-- PP39 and PP40: the pattern address. -/
theorem test_ppu_pp39 :
    patternAddress { Ppu.powerOn with bgNextTile := 0x24#8 } = 0x0240#14 ∧
    patternAddress { Ppu.powerOn with ctrl := 0x10#8, bgNextTile := 0xFF#8, v := 0x3000#15 } = 0x1FF3#14 := by decide

/-- PP42: an 8-line sprite at y = 20 is found on scanlines 20 to 27. -/
theorem test_ppu_pp42 :
    spriteInRange { Ppu.powerOn with oam := [(4, 20#8)], scanline := 20 } 1 = true ∧
    spriteInRange { Ppu.powerOn with oam := [(4, 20#8)], scanline := 27 } 1 = true ∧
    spriteInRange { Ppu.powerOn with oam := [(4, 20#8)], scanline := 28 } 1 = false := by decide

/-- PP46 to PP48: the layer that is seen. -/
theorem test_ppu_pp46 :
    priorityPixel ⟨2, 1⟩ ⟨⟨4, 3⟩, true, false⟩ = ⟨2, 1⟩ ∧ priorityPixel ⟨2, 1⟩ ⟨⟨4, 3⟩, false, false⟩ = ⟨4, 3⟩ ∧
    priorityPixel ⟨3, 0⟩ ⟨⟨6, 0⟩, false, false⟩ = ⟨0, 0⟩ := by decide

/-! ### APU (section 2.9) -/

/-- AP4: a length counter's load, and its loss when disabled. -/
theorem test_apu_ap4 :
    ((LengthCounter.powerOn.setEnabled true).load 1).counter = 254#8 ∧
    (((LengthCounter.powerOn.setEnabled true).load 1).setEnabled false).counter = 0 ∧
    (LengthCounter.powerOn.load 1).counter = 0 := by decide

/-- AP7: an envelope restarts at 15 and falls by one with period 0. -/
theorem test_apu_ap7 :
    ({ Envelope.powerOn with restart := true }).clock.counter = 15#4 ∧
    ({ Envelope.powerOn with restart := true }).clock.clock.clock.counter = 13#4 := by decide

/-- AP10, AP11, AP13: sweep targets of the two pulses, and silence. -/
theorem test_apu_ap10 :
    ({ Sweep.powerOn true with negate := true, shiftCount := 1 }.recompute 0x100#11).targetPeriod = 0x7F ∧
    ({ Sweep.powerOn false with negate := true, shiftCount := 1 }.recompute 0x100#11).targetPeriod = 0x80 ∧
    ({ Sweep.powerOn true with shiftCount := 1 }.recompute 0x600#11).silenceChannel = true := by decide

/-- AP14 and AP15: the silence boundary at period 8. -/
theorem test_apu_ap14 :
    ((Sweep.powerOn true).recompute 7#11).silenceChannel = true ∧
    ((Sweep.powerOn true).recompute 8#11).silenceChannel = false := by decide

/-- AP19: a sweep clock writes the target into the period. -/
theorem test_apu_ap19 :
    ({ Pulse.powerOn true with
      timer := (ApuTimer.powerOn 8).withPeriod 0x100#11
      sweep := ({ Sweep.powerOn true with enabled := true, shiftCount := 1 }).recompute 0x100#11 }).clockSweep.timer =
    (ApuTimer.powerOn 8).withPeriod 0x180#11 := by decide

/-- AP22: the first clocks of the LFSR. -/
theorem test_apu_ap22 :
    lfsrNext false 1#15 = 0x4000#15 ∧ lfsrNext true 1#15 = 0x4000#15 ∧ lfsrNext false 0x4000#15 = 0x2000#15 := by decide

/-- AP25: noise periods. -/
theorem test_apu_ap25 :
    noisePeriod 0 = 1#11 ∧ noisePeriod 1 = 3#11 ∧ noisePeriod 9 = 126#11 ∧ noisePeriod 15 = 2033#11 := by decide

/-- AP31: the three registers of pulse 1. -/
theorem test_apu_ap31 :
    (memWrite (memWrite (memWrite (memWrite blank 0x4015#16 0x0F#8) 0x4000#16 0xBF#8) 0x4002#16 0xFD#8)
      0x4003#16 0x0A#8).apu.pulse1 =
    { Pulse.powerOn true with
      duty := 2
      timer := (ApuTimer.powerOn 8).withPeriod 0x2FD#11
      length := { enabled := true, halt := true, counter := 254 }
      envelope :=
        { restart := true, loop := true, counter := 0, constantVolumeMode := true, constantVolume := 15
          divider := { period := 15, counter := 0 } } } := by decide

/-- AP40: switching to 5 steps clocks both halves at once. -/
theorem test_apu_ap40 :
    (writeFrameCounter
      { Apu.powerOn with
        pulse1 := { Pulse.powerOn true with length := { enabled := true, halt := false, counter := 2 } }
        frame := { cpuCycleCounter := 1000, numSteps := .fourStep, inhibitInterrupt := false, irqPending := true } }
      0xC0#8).pulse1.length.counter = 1 ∧
    (writeFrameCounter
      { Apu.powerOn with
        frame := { cpuCycleCounter := 1000, numSteps := .fourStep, inhibitInterrupt := false, irqPending := true } }
      0xC0#8).frame = { cpuCycleCounter := 0, numSteps := .fiveStep, inhibitInterrupt := true, irqPending := false } := by
  decide

/-- AP44, AP48, AP50, AP52: output samples. -/
theorem test_apu_ap44 :
    sampleInt .table 15 0 0 0 = -23015 ∧ sampleInt .table 15 15 15 15 = 9383 ∧
    sampleInt .linear 15 0 0 0 = -25375 ∧ sampleInt .table 8 4 7 3 = -14000 := by decide

/-! ### Bus, interrupts and reset (sections 2.10 to 2.12) -/

/-- BU1 and BU2: RAM mirrors and the mirrors of the PPU's registers. -/
theorem test_bus_bu1 :
    (memRead (memWrite blank 0x0800#16 0x11#8) 0x1000#16).1 = 0x11#8 ∧
    (memWrite blank 0x3FFE#16 0x1E#8).ppu.t = 0x1E00#15 := by decide

/-- BU6 and BU7: the wait before a transfer. -/
theorem test_bus_bu6 :
    (memWrite { blank with cpuCycles := 100 } 0x4014#16 2).dma.wait = 2 ∧
    (memWrite { blank with cpuCycles := 101 } 0x4014#16 2).dma.wait = 1 := by decide

/-- BU11: a peek does not shift the controller. -/
theorem test_bus_bu11 :
    peek { blank with ctrl := { Controllers.powerOn 0x81 0 with shift0 := 0x81 } } 0x4016#16 = 0x41#8 ∧
    (memRead { blank with ctrl := { Controllers.powerOn 0x81 0 with shift0 := 0x81 } } 0x4016#16).1 = 0x41#8 := by decide

/-- EX1: an NMI entry. -/
theorem test_exception_ex1 :
    completes
      (cpuCycle { start [(0xFFFB, 0x90)] 0xC123 [] 0 0 0 0xFD 0xA0 with
        cpu := { (start [] 0xC123 [] 0 0 0 0xFD 0xA0).cpu with nmiPending := true } })
      (fun t => t.ram == [(0x1FB, 0xA0#8), (0x1FC, 0x23#8), (0x1FD, 0xC1#8)] && t.cpu.sp == 0xFA#8 &&
        t.cpu.p == 0xA4#8 && t.cpu.pc == 0x9000#16 && t.cpu.budget == 6 && !t.cpu.nmiPending) = true := by decide

/-- EX3: a masked IRQ is not entered. -/
theorem test_exception_ex3 :
    completes
      (cpuCycle { start [] 0x8000 [0xEA] 0 0 0 0xFD 0x24 with
        cpu := { (start [] 0x8000 [] 0 0 0 0xFD 0x24).cpu with irqLine := true } })
      (fun t => t.cpu.pc == 0x8001#16 && t.ram == []) = true := by decide

/-- RS1: power-on with a reset vector. -/
theorem test_reset_rs1 :
    (powerOn (.board { prg := [(0xFFFD, 0xC0#8)], chr := [] }) 0 0 testParams).cpu =
    { Cpu.powerOn with sp := 0xFD#8, p := 0x24#8, pc := 0xC000#16, budget := 7 } := by decide

/-- RS4: SP wraps, with no write. -/
theorem test_reset_rs4 :
    (softReset (start [] 0x8000 [] 0 0 0 0x01 0xA1)).cpu.sp = 0xFE#8 ∧
    (softReset (start [] 0x8000 [] 0 0 0 0x01 0xA1)).ram = [] := by decide

/-- The machine right after reset with a table word where its step fetches: that step runs LDA #$80. -/
theorem test_step_runs_fetch_word :
    completes (step (State.reset.withFetchWord 16 0x80A9)) (fun t => t.cpu.a == 0x80#8 && t.cpu.budget == 1) = true := by
  decide

/-- The host's interface is this machine. -/
theorem test_core : core.reset.cpu.pc = 0#16 := rfl

/-! ### What meets the hypotheses of each statement -/

/-- An outcome that passes a check is a next state. -/
theorem next_of_completes {o : Host.Outcome State Fault Refusal} (h : completes o (fun _ => true) = true) :
    ∃ t, o = .next t := by
  cases o with
  | next t => exact ⟨t, rfl⟩
  | fault r => cases h
  | refused r => cases h

/-- The blank machine's cartridge lists its contents. -/
theorem blank_listed : ∀ cs, blank.cart ≠ .custom cs := nofun

/-- The blank machine with a CPU. -/
def withCpu (f : Cpu → Cpu) : State := { blank with cpu := f blank.cpu }

theorem witness_EncodeOfDecode : decode [0xA9#8, 0x80#8, 0xEA#8] = .ok (.ldaImm 0x80#8, [0xEA#8]) := rfl

/-- The last byte of the last mirror, and the first of the second. -/
theorem witness_RamReadsBackTheWrite :
    (∀ cs, blank.cart ≠ .custom cs) ∧ (0x1FFF#16).toNat < 0x2000 ∧ (0x07FF#16).toNat < 0x2000 ∧
    (0x1FFF#16).toNat % 0x800 = (0x07FF#16).toNat % 0x800 ∧ (0x0800#16).toNat % 0x800 = (0#16).toNat % 0x800 :=
  ⟨blank_listed, by decide⟩

theorem witness_CartridgeComesFirst_read : (cartCpuRead blank.cart 0x8000#16).1 = some 0 := rfl

theorem witness_CartridgeComesFirst_write : (cartCpuWrite blank.cart 0xFFFF#16 1).1 = true := rfl

/-- The ends of the unclaimed ranges, the cartridge being the test cartridge or none. -/
theorem witness_CartridgeComesFirst_none :
    (cartCpuRead blank.cart 0x4000#16).1 = none ∧ (cartCpuRead blank.cart 0x4014#16).1 = none ∧
    (cartCpuRead blank.cart 0x4018#16).1 = none ∧ (cartCpuRead .absent 0xFFFF#16).1 = none ∧
    (0x4000#16).toNat = 0x4000 ∧ (0x4014#16).toNat = 0x4014 ∧ (0x4018#16).toNat = 0x4018 ∧
    0x4018 ≤ (0xFFFF#16).toNat := ⟨rfl, rfl, rfl, rfl, rfl, rfl, rfl, by decide⟩

/-- A pointer at the end of page 0, for both indirect modes. -/
theorem witness_AddressingModes :
    (∀ cs, blank.cart ≠ .custom cs) ∧ (0xFF#8).toNat = ((0xFF#8).toNat + blank.cpu.x.toNat) % 256 ∧
    (0x00#8).toNat = ((0xFF#8).toNat + 1) % 256 := ⟨blank_listed, by decide⟩

/-- Every list of rows the statements range over has rows: as many as the spec's encoding table of the mnemonic has for
memory operands. -/
theorem witness_rows (z : Byte) (w : Word) :
    [formsLDA z w, formsLDX z w, formsLDY z w, formsLAX z w, formsLAR w, formsSTA z w, formsSTX z w, formsSTY z w,
      formsSAX z w, formsADC z w, formsSBC z w, formsAND z w, formsORA z w, formsEOR z w, formsCMP z w, formsCPX z w,
      formsCPY z w, formsBIT z w].map List.length = [7, 4, 4, 6, 1, 7, 3, 3, 4, 7, 7, 7, 7, 7, 7, 2, 2, 2] ∧
    [formsASL z w, formsLSR z w, formsROL z w, formsROR z w, formsINC z w, formsDEC z w, formsSLO z w, formsRLA z w,
      formsSRE z w, formsRRA z w, formsDCP z w, formsISC z w, formsAHX z w, formsSHX w, formsSHY w, formsTAS w].map
      List.length = [4, 4, 4, 4, 4, 4, 7, 7, 7, 7, 7, 7, 2, 1, 1, 1] ∧
    formsBranch z = ⟨.bcc z, 0x90#8, .c, false⟩ :: (formsBranch z).tail ∧ formsFlag.length = 7 ∧
    formsNopImplied.length = 7 ∧ (formsNopImmediate z).length = 5 ∧ (formsNOP z w).length = 16 ∧
    formsJam.length = 12 := ⟨rfl, rfl, rfl, rfl, rfl, rfl, rfl, rfl⟩

/-- A branch taken across the end of the address space, and one not taken. -/
theorem witness_BranchesTakeTheirTarget :
    ⟨.beq 0x10#8, 0xF0#8, .z, true⟩ ∈ formsBranch 0x10#8 ∧
    getFlag (start [] 0xFFF2 [] 0 0 0 0xFD 0x26).cpu.p .z = true ∧
    ((0x0002#16).toNat : Int) = (((start [] 0xFFF2 [] 0 0 0 0xFD 0x26).cpu.pc.toNat : Int) + (0x10#8).toInt) % 65536 ∧
    getFlag blank.cpu.p .z ≠ true := by decide

theorem witness_JumpsSetPc : (0x0200#16).toNat = 256 * ((0x02FF#16).toNat / 256) + ((0x02FF#16).toNat + 1) % 256 := by
  decide

/-- A call with the stack pointer at 0, so that the pushes wrap. -/
theorem witness_RtsUndoesJsr :
    (∀ cs, (start [] 0x8003 [] 0 0 0 0 0x24).cart ≠ .custom cs) ∧
    ∃ t, exec (.jsrAbs 0x9000#16) (start [] 0x8003 [] 0 0 0 0 0x24) = .next t :=
  ⟨nofun, next_of_completes (by decide)⟩

theorem witness_RtiUndoesEntry :
    (∀ cs, blank.cart ≠ .custom cs) ∧ statusFixed blank.cpu.p ∧ nmiEntry blank = nmiEntry blank ∧
    irqEntry blank = irqEntry blank ∧ ∃ t, exec .brk blank = .next t :=
  ⟨blank_listed, by unfold statusFixed; decide, rfl, rfl, next_of_completes (by decide)⟩

/-- Both policies; and an indexed store that crosses a page, and one that does not. -/
theorem witness_HighByteStores :
    blank.params.shPolicy = .formula ∧ (blank.setParams refusing).params.shPolicy = .refuse ∧
    hiByte (effectiveAddress (withCpu fun c => { c with y := 0x10#8 }) (.aby 0x02F8#16)) ≠
      hiByte (effective (withCpu fun c => { c with y := 0x10#8 }) (.aby 0x02F8#16)).1.base ∧
    hiByte (effectiveAddress blank (.aby 0x02F8#16)) = hiByte (effective blank (.aby 0x02F8#16)).1.base := by decide

theorem witness_JamStopsTheCpu :
    (.jamF2, 0xF2#8) ∈ formsJam ∧ blank.params.jamPolicy = .halt ∧
    (blank.setParams refusing).params.jamPolicy = .fault := by decide

theorem witness_DecimalFlagIsIgnored :
    Instr.adcZp 0x10#8 ∈ (formsADC 0x10#8 0#16 ++ formsSBC 0x10#8 0#16 ++ formsRRA 0x10#8 0#16 ++
      formsISC 0x10#8 0#16).map MemForm.instr ∧
    Instr.arrImm 0x10#8 ∈ [Instr.adcImm 0x10#8, Instr.sbcImm 0x10#8, Instr.sbcImmEB 0x10#8, Instr.arrImm 0x10#8] ∧
    (∃ t, exec (.adcZp 0x10#8) blank = .next t) ∧ ∃ t, exec (.arrImm 0x10#8) blank = .next t :=
  ⟨by decide, by decide, next_of_completes (by decide), next_of_completes (by decide)⟩

/-- STA $0200 in the last bytes of the ROM below the vectors. -/
theorem witness_StepRunsDecodedInstruction :
    consistent (start [] 0xFFF7 [0x8D, 0x00, 0x02] 7 0 0 0xFD 0x24) = true ∧
    isCpuTick (start [] 0xFFF7 [0x8D, 0x00, 0x02] 7 0 0 0xFD 0x24) = true ∧
    AtInstruction (start [] 0xFFF7 [0x8D, 0x00, 0x02] 7 0 0 0xFD 0x24) ∧
    decode (peekBytes (start [] 0xFFF7 [0x8D, 0x00, 0x02] 7 0 0 0xFD 0x24) 0xFFF7#16 3) = .ok (.staAbs 0x0200#16, []) ∧
    ∀ k, k < (encode (.staAbs 0x0200#16)).length →
      PlainAddress (start [] 0xFFF7 [0x8D, 0x00, 0x02] 7 0 0 0xFD 0x24) (0xFFF7#16 + BitVec.ofNat 16 k) :=
  ⟨by decide, by decide, ⟨rfl, rfl, rfl, rfl, .inl rfl⟩, rfl,
    fun k h => ⟨nofun, by revert k; decide⟩⟩

/-- The common part of the four cases of a boundary. -/
theorem witness_BoundaryPriority :
    consistent blank = true ∧ isCpuTick blank = true ∧ blank.dma.active = false ∧ blank.cpu.budget = 0 := by decide

/-- The four cases: jammed with a pending NMI; NMI and IRQ together; IRQ with I = 0; IRQ with I = 1. -/
theorem witness_BoundaryPriority_cases :
    (withCpu fun c => { c with jammed := true, nmiPending := true }).cpu.jammed = true ∧
    (withCpu fun c => { c with nmiPending := true, irqLine := true }).cpu.nmiPending = true ∧
    getFlag (withCpu fun c => { c with irqLine := true, p := 0x20#8 }).cpu.p .i = false ∧
    getFlag (withCpu fun c => { c with irqLine := true }).cpu.p .i = true := by decide

theorem witness_InterruptEntries : blank.params.mapperIrqAck = .level := rfl

/-- A tick that is not the CPU's, a transfer, and a budget of 1. -/
theorem witness_CpuWaits :
    consistent { blank with tick := 1 } = true ∧ isCpuTick { blank with tick := 1 } = false ∧
    consistent { blank with dma := { Dma.powerOn with active := true } } = true ∧
    consistent (withCpu fun c => { c with budget := 1 }) = true ∧
    isCpuTick (withCpu fun c => { c with budget := 1 }) = true ∧
    (withCpu fun c => { c with budget := 1 }).cpu.budget ≠ 0 := by decide

/-- A step at the start of vertical blank with NMI enabled. -/
theorem witness_InterruptDelivery :
    (∃ t, step (withPpu fun p => { p with scanline := 241, dot := 1, ctrl := 0x80#8 }) = .next t) ∧
    (withPpu fun p => { p with scanline := 241, dot := 1, ctrl := 0x80#8 }).ppu.ctrl.getLsbD 7 = true :=
  ⟨next_of_completes (by decide), by decide⟩

/-- The pages at the ends of the two ranges, and both parities of the slot. -/
theorem witness_OamDmaCopiesThePage :
    (∀ cs, blank.cart ≠ .custom cs) ∧
    (∀ page ∈ [0x00#8, 0x1F#8, 0x41#8, 0xFF#8], page.toNat < 0x20 ∨ 0x41 ≤ page.toNat) ∧
    514 = 513 + ({ blank with cpuCycles := 100 }.cpuCycles + 1) % 2 ∧
    513 = 513 + ({ blank with cpuCycles := 101 }.cpuCycles + 1) % 2 := ⟨blank_listed, by decide⟩

theorem witness_ResetEntryEffects : blank.params.resetScope = .cpuOnly := rfl

/-- A saved state is taken but for its parameters, the machine keeping its own (R247). -/
theorem test_load_state_keeps_params :
    loadState (some ((withPpu fun p => { p with dot := 7 }).setParams refusing)) blank =
      some (withPpu fun p => { p with dot := 7 }) := by decide

/-- Saved states are rejected that are inconsistent, that hold B = 1 in P, or that belong to no cartridge (R247). -/
theorem test_load_state_rejects :
    loadState (some (withPpu fun p => { p with dot := 341 })) blank = none ∧
    loadState (some (withCpu fun c => { c with p := 0x34 })) blank = none ∧
    loadState (some { blank with cart := .absent }) blank = none := by decide

/-- The blank machine has every invariant and completes a step (ConsistencyKept, MemoriesKept, StatusBitsKept,
DeviceInvariantsKept). -/
theorem witness_invariants :
    consistent blank = true ∧ memoriesCanonical blank = true ∧ statusFixed blank.cpu.p ∧ ppuStatusClean blank ∧
    oamAttributesClean blank ∧ envelopesTied blank ∧ lengthsClamped blank ∧ blank.apu.noise.shift ≠ 0 ∧
    ∃ t, step blank = .next t :=
  ⟨by decide, by decide, by unfold statusFixed; decide, rfl, fun n => by rw [show blank.ppu.oam = [] from rfl]; exact (by decide : (0#8 &&& 0x1C#8) = 0), ⟨rfl, rfl, rfl⟩,
    ⟨fun _ => rfl, fun _ => rfl, fun _ => rfl, fun _ => rfl⟩, by decide, next_of_completes (by decide)⟩

theorem witness_SafeRunsNeverStop : Safe blank := ⟨by decide, rfl, rfl⟩

/-- One step that faults, one that is refused by policy, and one that is refused as inconsistent. -/
theorem witness_StopsAreTheSpecs :
    faultsWith (.jam 0x02#8) (step ((start [] 0x8000 [0x02] 0 0 0 0xFD 0x24).setParams refusing)) = true ∧
    refusesWith (.unstableStore 0x9E#8)
      (step ((start [] 0x8000 [0x9E, 0, 2] 0 0 0 0xFD 0x24).setParams refusing)) = true ∧
    refusesWith .inconsistentState (step (withPpu fun p => { p with dot := 341 })) = true := by decide

theorem witness_ScrollAndAddressWrites : (∀ cs, blank.cart ≠ .custom cs) ∧ blank.ppu.w = false := ⟨blank_listed, rfl⟩

/-- The first and the last page of the range, and a mirror of the last. -/
theorem witness_VramReadsBack :
    (∀ cs, blank.cart ≠ .custom cs) ∧ blank.ppu.w = false ∧
    ∀ hi ∈ [0x20#8, 0x3D#8, 0xFD#8], 0x20 ≤ hi.toNat % 64 ∧ hi.toNat % 64 < 0x3E := ⟨blank_listed, rfl, by decide⟩

theorem witness_PpuPositionCounts :
    rendering { Ppu.powerOn with dot := 340 } = false ∧ { Ppu.powerOn with dot := 340 }.scanline ≤ 261 ∧
    { Ppu.powerOn with dot := 340 }.dot ≤ 340 := by decide

/-- The cycles around the first IRQ and the last of the sequence. -/
theorem witness_FrameIrqTiming :
    Apu.powerOn.frame.numSteps = .fourStep ∧ Apu.powerOn.frame.inhibitInterrupt = false ∧
    Apu.powerOn.frame.irqPending = false ∧ Apu.powerOn.frame.cpuCycleCounter = 0 ∧
    ∀ k ∈ [0, 29827, 29828, 29830], k ≤ 29830 := by decide

theorem witness_ChannelEnables : (∀ cs, blank.cart ≠ .custom cs) ∧ (0x01#8).getLsbD 0 = true := ⟨blank_listed, rfl⟩

theorem witness_MixerSamples_silent :
    Apu.powerOn.pulse1.length.counter = 0 ∧ Apu.powerOn.pulse2.length.counter = 0 ∧
    Apu.powerOn.triangle.length.counter = 0 ∧ Apu.powerOn.noise.length.counter = 0 := by decide

/-- An APU whose pulse 1 is at 15 and whose other channels are silent. -/
def loudPulse : Apu :=
  { Apu.powerOn with
    pulse1 := { Pulse.powerOn true with
      length := { enabled := true, halt := false, counter := 1 }
      envelope := { Envelope.powerOn with constantVolumeMode := true, constantVolume := 15 }
      step := 1 } }

theorem witness_MixerSamples_pulse :
    loudPulse.pulse1.value = 15 ∧ loudPulse.pulse2.value = 0 ∧ loudPulse.triangle.value = 0 ∧
    loudPulse.noise.value = 0 := by decide

theorem witness_ControllerShiftsOut : ∀ cs, blank.cart ≠ .custom cs := blank_listed

end Sys2Proof.Machine
end

/-! The internal indices stay in range (O46), a step stops only where the spec ends a run (O52), and with the default
policies no run stops (O51): spec/00_scope.md R9, R15, R249, R252. `consistent` is taken apart into one range per device;
each device's operations keep its range, `step_keeps` puts them together, and `exec_outcome` gives the stops. -/

namespace Sys2Proof.Machine

/-! ### The three ranges -/

/-- The PPU's indices lie in the ranges of R33. -/
structure Ppu.InRange (p : Ppu) : Prop where
  scanline : p.scanline ≤ 261
  dot : p.dot ≤ 340
  spriteCount : p.spriteCount ≤ 8

/-- The DMA engine's counters lie in the ranges of R41. -/
structure Dma.InRange (d : Dma) : Prop where
  wait : d.wait ≤ 2
  index : d.index ≤ 256
  active : d.active = true → d.index < 256

/-- The frame counter lies in its sequence (R38). -/
def FrameCounter.InRange (f : FrameCounter) : Prop := f.cpuCycleCounter < sequenceLength f.numSteps

/-- Every internal index of the machine lies in its range. -/
structure State.IndicesInRange (s : State) : Prop where
  ppu : s.ppu.InRange
  dma : s.dma.InRange
  frame : s.apu.frame.InRange

/-- The model's check is the three ranges together (R9). -/
theorem consistent_iff (s : State) : consistent s = true ↔ s.IndicesInRange := by
  simp only [consistent, Bool.and_eq_true, Bool.or_eq_true, Bool.not_eq_true', decide_eq_true_eq]
  constructor
  · rintro ⟨⟨⟨⟨⟨⟨hline, hdot⟩, hcount⟩, hwait⟩, hindex⟩, hactive⟩, hframe⟩
    refine ⟨⟨hline, hdot, hcount⟩, ⟨hwait, hindex, fun ha => ?_⟩, hframe⟩
    exact hactive.resolve_left (by simp [ha])
  · rintro ⟨⟨hline, hdot, hcount⟩, ⟨hwait, hindex, hactive⟩, hframe⟩
    refine ⟨⟨⟨⟨⟨⟨hline, hdot⟩, hcount⟩, hwait⟩, hindex⟩, ?_⟩, hframe⟩
    cases ha : s.dma.active with
    | false => exact .inl rfl
    | true => exact .inr (hactive ha)

/-! ### The PPU -/

/-- Two PPUs with the same position and the same sprite count. -/
structure SamePosition (p q : Ppu) : Prop where
  scanline : q.scanline = p.scanline
  dot : q.dot = p.dot
  spriteCount : q.spriteCount = p.spriteCount

theorem SamePosition.inRange {p q : Ppu} (e : SamePosition p q) (h : p.InRange) : q.InRange :=
  ⟨e.scanline ▸ h.scanline, e.dot ▸ h.dot, e.spriteCount ▸ h.spriteCount⟩

/-- A CPU read of a PPU register moves no index (R179). -/
theorem ppuRegRead_samePosition (b : PpuBus) (r : BitVec 3) : SamePosition b.ppu (ppuRegRead b r).2.ppu := by
  rcases ppuRegRead_cases b r with ⟨-, e⟩ | ⟨-, e⟩ | e <;> rw [e] <;> exact ⟨rfl, rfl, rfl⟩

/-- A PPU bus write moves no index (R176). -/
theorem ppuWrite_samePosition (b : PpuBus) (a : BitVec 14) (d : Byte) : SamePosition b.ppu (ppuWrite b a d).ppu := by
  unfold ppuWrite ppuOwnWrite
  dsimp only
  split
  · exact ⟨rfl, rfl, rfl⟩
  · split
    · exact ⟨rfl, rfl, rfl⟩
    · split <;> exact ⟨rfl, rfl, rfl⟩

theorem writePpuScroll_samePosition (p : Ppu) (d : Byte) : SamePosition p (writePpuScroll p d) := by
  unfold writePpuScroll
  split <;> exact ⟨rfl, rfl, rfl⟩

theorem writePpuAddr_samePosition (p : Ppu) (d : Byte) : SamePosition p (writePpuAddr p d) := by
  unfold writePpuAddr
  split <;> exact ⟨rfl, rfl, rfl⟩

/-- A CPU write to a PPU register moves no index (R180). -/
theorem ppuRegWrite_samePosition (b : PpuBus) (r : BitVec 3) (d : Byte) :
    SamePosition b.ppu (ppuRegWrite b r d).ppu := by
  unfold ppuRegWrite
  split
  case h_5 => exact writePpuScroll_samePosition b.ppu d
  case h_6 => exact writePpuAddr_samePosition b.ppu d
  case h_7 =>
    have h := ppuWrite_samePosition b (b.ppu.v.setWidth 14) d
    exact ⟨h.scanline, h.dot, h.spriteCount⟩
  all_goals exact ⟨rfl, rfl, rfl⟩

/-- The sprite evaluation counts at most eight sprites (R201). -/
theorem evaluateSprites_inRange {p : Ppu} (h : p.InRange) : (evaluateSprites p).InRange :=
  ⟨h.scanline, h.dot, Nat.min_le_right _ 8⟩

/-- One dot keeps the position and the sprite count in range (R192, R193, R201). -/
theorem ppuClock_inRange (b : PpuBus) (h : b.ppu.InRange) : (ppuClock b).ppu.InRange := by
  refine ppuClock_keeps (J := fun c => c.ppu.InRange) b ?_
    (fun _ _ _ _ hline hdot h => ⟨hline h.scanline, hdot h.dot, h.spriteCount⟩) h
  exact {
    clear := fun _ h => ⟨h.scanline, h.dot, Nat.zero_le 8⟩
    shift := fun _ => SamePosition.inRange ⟨rfl, rfl, rfl⟩
    load := fun _ => SamePosition.inRange ⟨rfl, rfl, rfl⟩
    tile := fun _ => SamePosition.inRange ⟨rfl, rfl, rfl⟩
    attrByte := fun _ => SamePosition.inRange ⟨rfl, rfl, rfl⟩
    patternLo := fun _ => SamePosition.inRange ⟨rfl, rfl, rfl⟩
    patternHi := fun _ => SamePosition.inRange ⟨rfl, rfl, rfl⟩
    scroll := fun _ _ => SamePosition.inRange ⟨rfl, rfl, rfl⟩
    stepSprites := fun _ => SamePosition.inRange ⟨rfl, rfl, rfl⟩
    evaluate := fun _ => evaluateSprites_inRange
    sprites := fun c h => by
      obtain ⟨slots, e⟩ := fetchSprites_ppu c
      rw [e]
      exact ⟨h.scanline, h.dot, h.spriteCount⟩
    count := fun _ => SamePosition.inRange ⟨rfl, rfl, rfl⟩
    vblank := fun _ => SamePosition.inRange ⟨rfl, rfl, rfl⟩
    pixel := fun _ _ _ _ => SamePosition.inRange ⟨rfl, rfl, rfl⟩ }

/-! ### The APU's frame counter -/

theorem sequenceLength_pos (m : SequenceMode) : 0 < sequenceLength m := by cases m <;> decide

/-- One CPU cycle leaves the frame counter in its sequence, which starts again at its end (R219). -/
theorem FrameCounter.advance_inRange {f : FrameCounter} (h : f.InRange) : f.advance.InRange := by
  unfold FrameCounter.InRange FrameCounter.advance at *
  dsimp only
  split
  · exact sequenceLength_pos _
  · omega

/-- The clocks a CPU cycle gives the channels leave the frame counter alone (R219). -/
theorem frameCycle_frame (a : Apu) : (frameCycle a).frame = a.frame.advance := by
  unfold frameCycle
  dsimp only
  split <;> split <;> rfl

theorem clockTimers_frame (a : Apu) : (clockTimers a).frame = a.frame := by
  unfold clockTimers
  dsimp only
  split <;> rfl

/-- The APU's clock advances the frame counter on a CPU cycle and leaves it alone otherwise (R233). -/
theorem apuClock_frame (k : Params) (cpuCycle : Bool) (a : Apu) :
    (apuClock k cpuCycle a).frame = if cpuCycle then a.frame.advance else a.frame := by
  cases cpuCycle with
  | false => rfl
  | true =>
    show (clockTimers (frameCycle (recomputeSweeps a))).frame = a.frame.advance
    rw [clockTimers_frame, frameCycle_frame]
    rfl

theorem apuClock_inRange (k : Params) (cpuCycle : Bool) {a : Apu} (h : a.frame.InRange) :
    (apuClock k cpuCycle a).frame.InRange := by
  rw [apuClock_frame]
  split
  · exact FrameCounter.advance_inRange h
  · exact h

/-- A $4017 write starts the sequence of its mode (R220). -/
theorem writeFrameCounter_inRange (a : Apu) (d : Byte) : (writeFrameCounter a d).frame.InRange := by
  unfold writeFrameCounter
  dsimp only
  split <;> exact sequenceLength_pos _

/-- A CPU write to an APU register leaves the frame counter alone but for $4017, which starts it again (R221). -/
theorem apuRegWrite_inRange (r : Nat) (d : Byte) {a : Apu} (h : a.frame.InRange) :
    (apuRegWrite a r d).frame.InRange := by
  unfold apuRegWrite
  split
  case h_16 => exact writeFrameCounter_inRange a d
  all_goals exact h

/-! ### The DMA engine -/

/-- A started transfer waits one cycle or two and begins at byte 0 (R240). -/
theorem startDma_inRange (m : Dma) (slot : Nat) (d : Byte) : (startDma m slot d).InRange where
  wait := by simp only [startDma]; omega
  index := Nat.zero_le 256
  active := fun _ => (by decide : 0 < 256)

/-- What a DMA cycle can do: end a wait cycle, read a byte, or write it to OAM (R241). -/
theorem dmaCycle_cases (s : State) :
    dmaCycle s = s.setDma { s.dma with wait := s.dma.wait - 1 } ∨
    (∃ a, dmaCycle s = (memRead s a).2.setDma { s.dma with data := (memRead s a).1, phase := .write }) ∨
    dmaCycle s = (s.setPpuBus { s.ppuBus with ppu := writeOamData s.ppu s.dma.data }).setDma { s.dma with
      index := s.dma.index + 1
      phase := .read
      active := s.dma.active && decide (s.dma.index + 1 ≠ 256) } := by
  unfold dmaCycle
  split
  · exact .inl rfl
  · split
    · refine .inr (.inl ⟨wordOf s.dma.page (BitVec.ofNat 8 s.dma.index), ?_⟩)
      simp only [memRead_dma]
    · exact .inr (.inr rfl)

/-! ### The machine -/

theorem State.IndicesInRange.setPpuBus {s : State} (h : s.IndicesInRange) {b : PpuBus} (e : SamePosition s.ppu b.ppu) :
    (s.setPpuBus b).IndicesInRange := ⟨e.inRange h.ppu, h.dma, h.frame⟩

theorem memRead_inRange (s : State) (a : Word) (h : s.IndicesInRange) : (memRead s a).2.IndicesInRange :=
  memRead_keeps State.IndicesInRange (fun _ _ h => ⟨h.ppu, h.dma, h.frame⟩)
    (fun s r h => h.setPpuBus (ppuRegRead_samePosition s.ppuBus r)) (fun _ h => ⟨h.ppu, h.dma, h.frame⟩)
    (fun _ h => ⟨h.ppu, h.dma, h.frame⟩) (fun _ h => ⟨h.ppu, h.dma, h.frame⟩) s a h

theorem memWrite_inRange (s : State) (a : Word) (v : Byte) (h : s.IndicesInRange) :
    (memWrite s a v).IndicesInRange :=
  memWrite_keeps State.IndicesInRange (fun _ _ h => ⟨h.ppu, h.dma, h.frame⟩)
    (fun _ _ _ _ h => ⟨h.ppu, h.dma, h.frame⟩)
    (fun s r v h => h.setPpuBus (ppuRegWrite_samePosition s.ppuBus r v))
    (fun _ r v h => ⟨h.ppu, h.dma, apuRegWrite_inRange r v h.frame⟩)
    (fun s v h => ⟨h.ppu, startDma_inRange s.dma s.cpuCycles v, h.frame⟩)
    (fun _ _ h => ⟨h.ppu, h.dma, h.frame⟩) s a v h

/-- A cycle of an active transfer keeps the indices in range: the write of byte 255 ends the transfer (R241). -/
theorem dmaCycle_inRange (s : State) (ha : s.dma.active = true) (h : s.IndicesInRange) :
    (dmaCycle s).IndicesInRange := by
  have hwait := h.dma.wait
  have hindex := h.dma.active ha
  rcases dmaCycle_cases s with e | ⟨a, e⟩ | e <;> rw [e]
  · exact ⟨h.ppu, ⟨Nat.le_trans (Nat.sub_le _ _) hwait, h.dma.index, h.dma.active⟩, h.frame⟩
  · have hread := memRead_inRange s a h
    exact ⟨hread.ppu, ⟨hwait, h.dma.index, h.dma.active⟩, hread.frame⟩
  · refine ⟨SamePosition.inRange (p := s.ppu) ⟨rfl, rfl, rfl⟩ h.ppu, ⟨hwait, hindex, fun hstill => ?_⟩, h.frame⟩
    simp only [State.setDma_dma, Bool.and_eq_true, decide_eq_true_eq] at hstill ⊢
    omega

/-- What the acknowledge of an IRQ can do: change the cartridge (R243). -/
theorem acknowledgeIrq_cases (s : State) : acknowledgeIrq s = s ∨ ∃ c, acknowledgeIrq s = s.setCart c := by
  unfold acknowledgeIrq
  split
  · exact .inl rfl
  · split
    · exact .inr ⟨_, rfl⟩
    · exact .inl rfl

/-- Every part of a step keeps the indices in range (R9). -/
theorem stepKeeps_indicesInRange : StepKeeps State.IndicesInRange where
  cpu _ _ _ h := ⟨h.ppu, h.dma, h.frame⟩
  read := memRead_inRange
  write := memWrite_inRange
  devices s h := ⟨ppuClock_inRange s.ppuBus h.ppu, h.dma, apuClock_inRange _ _ h.frame⟩
  dma := dmaCycle_inRange
  acknowledge s h := by
    rcases acknowledgeIrq_cases s with e | ⟨c, e⟩ <;> rw [e] <;> exact ⟨h.ppu, h.dma, h.frame⟩
  countSlot _ h := ⟨h.ppu, h.dma, h.frame⟩
  endOfTick s h := by
    refine ⟨?_, ?_, ?_⟩
    · rw [endOfTick_ppu]; exact SamePosition.inRange (p := s.ppu) ⟨rfl, rfl, rfl⟩ h.ppu
    · rw [endOfTick_dma]; exact h.dma
    · rw [endOfTick_apu]; exact h.frame

/-- Settles O46: the invariant `IndicesInRange` is kept by every part of a step. -/
theorem consistencyKept : Obligations.ConsistencyKept := by
  intro s t h e
  rw [consistent_iff] at h ⊢
  exact step_keeps stepKeeps_indicesInRange h e

/-! ### The parameters -/

/-- The bus and the CPU keep the parameters, which are no state of the machine (R11). -/
theorem busKeeps_params (k : Params) : BusKeeps (fun s => s.params = k) where
  cpu _ _ _ h := h
  read s a h := (memRead_params s a).trans h
  write s a v h := (memWrite_params s a v).trans h

@[simp] theorem fetchInstr_params (s : State) : (fetchInstr s).2.params = s.params :=
  fetchInstr_keeps (busKeeps_params s.params) s rfl

@[simp] theorem dmaCycle_params (s : State) : (dmaCycle s).params = s.params := by
  rcases dmaCycle_cases s with e | ⟨a, e⟩ | e <;> rw [e]
  · rfl
  · exact memRead_params s a
  · rfl

@[simp] theorem acknowledgeIrq_params (s : State) : (acknowledgeIrq s).params = s.params := by
  rcases acknowledgeIrq_cases s with e | ⟨c, e⟩
  · rw [e]
  · rw [e]; rfl

theorem stepKeeps_params (k : Params) : StepKeeps (fun s => s.params = k) where
  toBusKeeps := busKeeps_params k
  devices _ h := h
  dma s _ h := (dmaCycle_params s).trans h
  acknowledge s h := (acknowledgeIrq_params s).trans h
  countSlot _ h := h
  endOfTick s h := (endOfTick_params s).trans h

/-- No step changes the parameters (R11). -/
theorem step_params {s t : State} (e : step s = .next t) : t.params = s.params :=
  step_keeps (stepKeeps_params s.params) rfl e

/-! ### Where a step stops -/

/-- An outcome that the spec allows under a choice of the parameters: a next state, or a stop by one of the two policies
that end a run, at one of their opcodes (R15, R166, R172). -/
inductive SpecOutcome (k : Params) : Host.Outcome State Fault Refusal → Prop
  | next (t : State) : SpecOutcome k (.next t)
  | jam (op : Byte) (policy : k.jamPolicy = .fault) (mem : op ∈ jamOpcodes) : SpecOutcome k (.fault (.jam op))
  | highStore (op : Byte) (policy : k.shPolicy = .refuse) (mem : op ∈ highStoreOpcodes) :
    SpecOutcome k (.refused (.unstableStore op))

theorem exec_specOutcome (i : Instr) (s : State) : SpecOutcome s.params (exec i s) := by
  rcases exec_outcome i s with ⟨t, e⟩ | ⟨op, hop, ⟨-, t, e⟩ | ⟨hpolicy, e⟩⟩ | ⟨op, hop, ⟨-, t, e⟩ | ⟨hpolicy, e⟩⟩ <;>
    rw [e]
  · exact .next t
  · exact .next t
  · exact .jam op hpolicy hop
  · exact .next t
  · exact .highStore op hpolicy hop

/-- What follows a completed part adds no stop. -/
theorem SpecOutcome.thenNext {k : Params} {o : Host.Outcome State Fault Refusal} (f : State → State)
    (h : SpecOutcome k o) : SpecOutcome k (thenNext o f) := by
  cases h with
  | next t => exact .next (f t)
  | jam op policy mem => exact .jam op policy mem
  | highStore op policy mem => exact .highStore op policy mem

/-- At a boundary only an instruction can stop the CPU (R253). -/
theorem cpuBoundary_specOutcome (s : State) : SpecOutcome s.params (cpuBoundary s) := by
  have hexec := exec_specOutcome (fetchInstr s).1 (fetchInstr s).2
  rw [fetchInstr_params] at hexec
  unfold cpuBoundary
  split
  · exact .next s
  · split
    · exact .next (nmiEntry s)
    · split
      · exact .next (irqEntry s)
      · exact hexec

theorem cpuCycle_specOutcome (s : State) : SpecOutcome s.params (cpuCycle s) := by
  refine SpecOutcome.thenNext spendCycle ?_
  split
  · exact cpuBoundary_specOutcome s
  · exact .next s

theorem cpuSlot_specOutcome (s : State) : SpecOutcome s.params (cpuSlot s) := by
  refine SpecOutcome.thenNext countSlot ?_
  split
  · exact .next (dmaCycle s)
  · exact cpuCycle_specOutcome s

theorem masterTick_specOutcome (s : State) : SpecOutcome s.params (masterTick s) := by
  unfold masterTick
  split
  · exact (cpuSlot_specOutcome (clockDevices s)).thenNext endOfTick
  · exact .next (endOfTick (clockDevices s))

/-- What a step can answer: a refusal where an index is out of range, and an outcome the spec allows elsewhere (R9). -/
theorem step_cases (s : State) :
    (consistent s = false ∧ step s = .refused .inconsistentState) ∨
    (consistent s = true ∧ SpecOutcome s.params (step s)) := by
  unfold step clockTick
  cases hc : consistent s with
  | false => exact .inl ⟨rfl, rfl⟩
  | true => exact .inr ⟨rfl, masterTick_specOutcome s⟩

/-- The opcodes of the JAM stops are those of the spec's table (R172). -/
theorem jamOpcodes_eq : jamOpcodes = formsJam.map Prod.snd := rfl

/-- Settles O52: the only stop beside the refusal of an inconsistent state is that of the fetched instruction. -/
theorem stopsAreTheSpecs : Obligations.StopsAreTheSpecs := by
  intro s
  rcases step_cases s with ⟨hc, e⟩ | ⟨-, h⟩
  · rw [e]
    exact ⟨nofun, fun r hr => by injection hr with hr; exact .inl ⟨hr.symm, hc⟩⟩
  · generalize step s = o at h
    cases h with
    | next t => exact ⟨nofun, nofun⟩
    | jam op policy mem =>
      refine ⟨fun r hr => ?_, nofun⟩
      injection hr with hr
      rw [jamOpcodes_eq, List.mem_map] at mem
      obtain ⟨f, hf, rfl⟩ := mem
      exact ⟨policy, f, hf, hr.symm⟩
    | highStore op policy mem =>
      refine ⟨nofun, fun r hr => ?_⟩
      injection hr with hr
      exact .inr ⟨policy, op, mem, hr.symm⟩

/-! ### Runs -/

/-- Progress: a safe machine completes its step (R9, R249). -/
theorem step_completes_of_safe {s : State} (h : Safe s) : ∃ t, step s = .next t := by
  obtain ⟨hc, hsh, hjam⟩ := h
  rcases step_cases s with ⟨hc', -⟩ | ⟨-, ho⟩
  · simp [hc] at hc'
  · generalize step s = o at ho
    cases ho with
    | next t => exact ⟨t, rfl⟩
    | jam op policy mem => simp [hjam] at policy
    | highStore op policy mem => simp [hsh] at policy

/-- Preservation: a step of a safe machine ends in a safe machine. -/
theorem safe_of_step {s t : State} (h : Safe s) (e : step s = .next t) : Safe t := by
  obtain ⟨hc, hpolicies⟩ := h
  exact ⟨consistencyKept s t hc e, by rw [step_params e]; exact hpolicies⟩

/-- Settles O51, by induction on the number of steps, with progress and preservation at each. -/
theorem safeRunsNeverStop : Obligations.SafeRunsNeverStop := by
  intro k
  induction k with
  | zero => exact fun s h => ⟨s, rfl, h⟩
  | succ k ih =>
    intro s h
    obtain ⟨s', e⟩ := step_completes_of_safe h
    obtain ⟨t, hrun, ht⟩ := ih s' (safe_of_step h e)
    exact ⟨t, ⟨s', e, hrun⟩, ht⟩

end Sys2Proof.Machine

/-! What every step keeps, device by device, and from it the canonical memories (O47). The closures `stepKeeps_ram`,
`PpuKeeps`, `ApuKeeps` and `CartKeeps` say what a property of one device needs for every step to keep it. -/

namespace Sys2Proof.Machine

/-! ### The parts of a step that the closures share -/

/-- What an OAM DMA cycle needs to keep a property of machines that the bus read keeps (R241). -/
theorem dmaCycle_keeps {I : State → Prop} (read : ∀ s a, I s → I (memRead s a).2)
    (dma : ∀ s d, I s → I (s.setDma d))
    (oamData : ∀ s d, I s → I (s.setPpuBus { s.ppuBus with ppu := writeOamData s.ppu d }))
    (s : State) (h : I s) : I (dmaCycle s) := by
  rcases dmaCycle_cases s with e | ⟨a, e⟩ | e <;> rw [e]
  · exact dma _ _ h
  · exact dma _ _ (read _ _ h)
  · exact dma _ _ (oamData _ _ h)

/-- A property of machines that any change of the cartridge keeps is kept by the acknowledge of an IRQ (R243). -/
theorem acknowledgeIrq_keeps {I : State → Prop} (cart : ∀ s c, I s → I (s.setCart c)) (s : State) (h : I s) :
    I (acknowledgeIrq s) := by
  rcases acknowledgeIrq_cases s with e | ⟨c, e⟩ <;> rw [e]
  · exact h
  · exact cart _ _ h

/-! ### Internal RAM -/

/-- Every part of a step keeps a property of internal RAM that the stores to its cells keep (R45). -/
theorem stepKeeps_ram {R : Store 8 → Prop} (store : ∀ m i v, i < 0x800 → R m → R (Memory.store m i v)) :
    StepKeeps (fun s => R s.ram) where
  cpu _ _ _ h := h
  read s a h := by rw [memRead_ram]; exact h
  write s a v h := memWrite_keeps (fun s => R s.ram) (fun _ _ h => h) (fun s i v hi h => store s.ram i v hi h)
    (fun _ _ _ h => h) (fun _ _ _ h => h) (fun _ _ h => h) (fun _ _ h => h) s a v h
  devices _ h := h
  dma s _ h := dmaCycle_keeps (I := fun s => R s.ram) (fun s a h => by rw [memRead_ram]; exact h) (fun _ _ h => h)
    (fun _ _ h => h) s h
  acknowledge s h := acknowledgeIrq_keeps (I := fun s => R s.ram) (fun _ _ h => h) s h
  countSlot _ h := h
  endOfTick s h := by rw [endOfTick_ram]; exact h

/-! ### The PPU -/

/-- Two PPUs with the same status byte and the same memories. -/
structure SameStores (p q : Ppu) : Prop where
  status : q.status = p.status
  oam : q.oam = p.oam
  nt : q.nt = p.nt
  pal : q.pal = p.pal
  frame : q.frame = p.frame

theorem writePpuScroll_sameStores (p : Ppu) (d : Byte) : SameStores p (writePpuScroll p d) := by
  unfold writePpuScroll
  split <;> exact ⟨rfl, rfl, rfl, rfl, rfl⟩

theorem writePpuAddr_sameStores (p : Ppu) (d : Byte) : SameStores p (writePpuAddr p d) := by
  unfold writePpuAddr
  split <;> exact ⟨rfl, rfl, rfl, rfl, rfl⟩

/-- What a CPU write to a PPU register can do to the status byte and the memories: nothing, the $2004 store, or the
$2007 write (R180). -/
theorem ppuRegWrite_cases (b : PpuBus) (r : BitVec 3) (d : Byte) :
    ((ppuRegWrite b r d).cart = b.cart ∧
      (SameStores b.ppu (ppuRegWrite b r d).ppu ∨ (ppuRegWrite b r d).ppu = writeOamData b.ppu d)) ∨
    ppuRegWrite b r d = writePpuData b d := by
  unfold ppuRegWrite
  split
  case h_4 => exact .inl ⟨rfl, .inr rfl⟩
  case h_5 => exact .inl ⟨rfl, .inl (writePpuScroll_sameStores b.ppu d)⟩
  case h_6 => exact .inl ⟨rfl, .inl (writePpuAddr_sameStores b.ppu d)⟩
  case h_7 => exact .inr rfl
  all_goals exact .inl ⟨rfl, .inl ⟨rfl, rfl, rfl, rfl, rfl⟩⟩

/-- What a property of the PPU needs for every step to keep it: it is about the status byte and the memories, and the
operations that change these keep it. -/
structure PpuKeeps (P : Ppu → Prop) : Prop where
  same : ∀ p q, SameStores p q → P p → P q
  readStatus : ∀ p, P p → P (statusCleared p)
  writeOam : ∀ p d, P p → P (writeOamData p d)
  writeOwn : ∀ p c a d, P p → P (ppuOwnWrite p c a d)
  clear : ∀ p, P p → P (preRenderClear p)
  evaluate : ∀ p, P p → P (evaluateSprites p)
  vblank : ∀ p, P p → P (startVblank p)
  pixel : ∀ p, p.scanline ≤ 239 → 1 ≤ p.dot → p.dot ≤ 256 → P p → P (composePixel p)

section
variable {P : Ppu → Prop}

theorem PpuKeeps.regRead (k : PpuKeeps P) (b : PpuBus) (r : BitVec 3) (h : P b.ppu) : P (ppuRegRead b r).2.ppu := by
  rcases ppuRegRead_cases b r with ⟨-, e⟩ | ⟨-, e⟩ | e <;> rw [e]
  · exact k.readStatus b.ppu h
  · exact k.same b.ppu _ ⟨rfl, rfl, rfl, rfl, rfl⟩ h
  · exact h

/-- A PPU bus write goes to the cartridge or to the PPU's own memories (R176). -/
theorem PpuKeeps.busWrite (k : PpuKeeps P) (b : PpuBus) (a : BitVec 14) (d : Byte) (h : P b.ppu) :
    P (ppuWrite b a d).ppu := by
  unfold ppuWrite
  dsimp only
  split
  · exact h
  · exact k.writeOwn _ _ _ _ h

theorem PpuKeeps.regWrite (k : PpuKeeps P) (b : PpuBus) (r : BitVec 3) (d : Byte) (h : P b.ppu) :
    P (ppuRegWrite b r d).ppu := by
  rcases ppuRegWrite_cases b r d with ⟨-, e | e⟩ | e
  · exact k.same _ _ e h
  · rw [e]; exact k.writeOam _ _ h
  · rw [e]
    exact k.same (ppuWrite b (b.ppu.v.setWidth 14) d).ppu _ ⟨rfl, rfl, rfl, rfl, rfl⟩ (k.busWrite b _ d h)

/-- A property of the PPU, with the position, which the work of a dot does not move. -/
structure HoldsAt (P : Ppu → Prop) (scanline dot : Nat) (p : Ppu) : Prop where
  holds : P p
  scanline_eq : p.scanline = scanline
  dot_eq : p.dot = dot

theorem PpuKeeps.holdsAt_same (k : PpuKeeps P) {n m : Nat} {p q : Ppu} (e : SameStores p q)
    (hline : q.scanline = p.scanline) (hdot : q.dot = p.dot) (h : HoldsAt P n m p) : HoldsAt P n m q :=
  ⟨k.same p q e h.holds, hline.trans h.scanline_eq, hdot.trans h.dot_eq⟩

/-- The work of a dot keeps what the PPU's operations keep (R192). -/
theorem PpuKeeps.dotKeeps (k : PpuKeeps P) (n m : Nat) : DotKeeps (fun b => HoldsAt P n m b.ppu) n m where
  clear b h := ⟨k.clear b.ppu h.holds, h.scanline_eq, h.dot_eq⟩
  shift _ := k.holdsAt_same ⟨rfl, rfl, rfl, rfl, rfl⟩ rfl rfl
  load _ := k.holdsAt_same ⟨rfl, rfl, rfl, rfl, rfl⟩ rfl rfl
  tile _ := k.holdsAt_same ⟨rfl, rfl, rfl, rfl, rfl⟩ rfl rfl
  attrByte _ := k.holdsAt_same ⟨rfl, rfl, rfl, rfl, rfl⟩ rfl rfl
  patternLo _ := k.holdsAt_same ⟨rfl, rfl, rfl, rfl, rfl⟩ rfl rfl
  patternHi _ := k.holdsAt_same ⟨rfl, rfl, rfl, rfl, rfl⟩ rfl rfl
  scroll _ _ := k.holdsAt_same ⟨rfl, rfl, rfl, rfl, rfl⟩ rfl rfl
  stepSprites _ := k.holdsAt_same ⟨rfl, rfl, rfl, rfl, rfl⟩ rfl rfl
  evaluate b h := ⟨k.evaluate b.ppu h.holds, h.scanline_eq, h.dot_eq⟩
  sprites b h := by
    obtain ⟨slots, e⟩ := fetchSprites_ppu b
    rw [e]
    exact k.holdsAt_same (p := b.ppu) ⟨rfl, rfl, rfl, rfl, rfl⟩ rfl rfl h
  count _ h := h
  vblank b h := ⟨k.vblank b.ppu h.holds, h.scanline_eq, h.dot_eq⟩
  pixel b hline hfirst hlast h := by
    refine ⟨k.pixel b.ppu ?_ ?_ ?_ h.holds, h.scanline_eq, h.dot_eq⟩
    · rw [h.scanline_eq]; exact hline
    · rw [h.dot_eq]; exact hfirst
    · rw [h.dot_eq]; exact hlast

theorem PpuKeeps.clock (k : PpuKeeps P) (b : PpuBus) (h : P b.ppu) : P (ppuClock b).ppu := by
  have hwork := dotWork_keeps b (k.dotKeeps _ _) ⟨h, rfl, rfl⟩
  obtain ⟨n, m, o, e, -⟩ := advancePosition_eq (dotWork b).ppu
  show P (advancePosition (dotWork b).ppu)
  rw [e]
  exact k.same (dotWork b).ppu _ ⟨rfl, rfl, rfl, rfl, rfl⟩ hwork.holds

theorem PpuKeeps.read (k : PpuKeeps P) (s : State) (a : Word) (h : P s.ppu) : P (memRead s a).2.ppu :=
  memRead_keeps (fun s => P s.ppu) (fun _ _ h => h) (fun s r h => k.regRead s.ppuBus r h) (fun _ h => h)
    (fun _ h => h) (fun _ h => h) s a h

theorem PpuKeeps.write (k : PpuKeeps P) (s : State) (a : Word) (v : Byte) (h : P s.ppu) : P (memWrite s a v).ppu :=
  memWrite_keeps (fun s => P s.ppu) (fun _ _ h => h) (fun _ _ _ _ h => h)
    (fun s r v h => k.regWrite s.ppuBus r v h) (fun _ _ _ h => h) (fun _ _ h => h) (fun _ _ h => h) s a v h

/-- Every part of a step keeps a property of the PPU that the PPU's operations keep. -/
theorem PpuKeeps.stepKeeps (k : PpuKeeps P) : StepKeeps (fun s => P s.ppu) where
  cpu _ _ _ h := h
  read := k.read
  write := k.write
  devices s h := k.clock s.ppuBus h
  dma s _ h := dmaCycle_keeps (I := fun s => P s.ppu) k.read (fun _ _ h => h) (fun s d h => k.writeOam s.ppu d h) s h
  acknowledge s h := acknowledgeIrq_keeps (I := fun s => P s.ppu) (fun _ _ h => h) s h
  countSlot _ h := h
  endOfTick s h := by rw [endOfTick_ppu]; exact k.same s.ppu _ ⟨rfl, rfl, rfl, rfl, rfl⟩ h

end

/-! ### The APU -/

/-- What a property of the APU needs for every step to keep it. -/
structure ApuKeeps (A : Apu → Prop) : Prop where
  readStatus : ∀ a, A a → A (clearFrameIrq a)
  regWrite : ∀ a r d, A a → A (apuRegWrite a r d)
  clock : ∀ p c a, A a → A (apuClock p c a)

section
variable {A : Apu → Prop}

theorem ApuKeeps.read (k : ApuKeeps A) (s : State) (a : Word) (h : A s.apu) : A (memRead s a).2.apu :=
  memRead_keeps (fun s => A s.apu) (fun _ _ h => h) (fun _ _ h => h) (fun s h => k.readStatus s.apu h)
    (fun _ h => h) (fun _ h => h) s a h

/-- Every part of a step keeps a property of the APU that the APU's operations keep. -/
theorem ApuKeeps.stepKeeps (k : ApuKeeps A) : StepKeeps (fun s => A s.apu) where
  cpu _ _ _ h := h
  read := k.read
  write s a v h := memWrite_keeps (fun s => A s.apu) (fun _ _ h => h) (fun _ _ _ _ h => h) (fun _ _ _ h => h)
    (fun s r v h => k.regWrite s.apu r v h) (fun _ _ h => h) (fun _ _ h => h) s a v h
  devices s h := k.clock s.params (isCpuTick s) s.apu h
  dma s _ h := dmaCycle_keeps (I := fun s => A s.apu) k.read (fun _ _ h => h) (fun _ _ h => h) s h
  acknowledge s h := acknowledgeIrq_keeps (I := fun s => A s.apu) (fun _ _ h => h) s h
  countSlot _ h := h
  endOfTick s h := by rw [endOfTick_apu]; exact h

end

/-! ### The cartridge -/

/-- What a property of the cartridge needs for every step to keep it: the functions of R49 that answer a new cartridge
state keep it. -/
structure CartKeeps (K : Cart → Prop) : Prop where
  cpuRead : ∀ c a, K c → K (cartCpuRead c a).2
  cpuWrite : ∀ c a d, K c → K (cartCpuWrite c a d).2
  ppuRead : ∀ c a, K c → K (cartPpuRead c a).2
  ppuWrite : ∀ c a d, K c → K (cartPpuWrite c a d).2
  clearIrq : ∀ c, K c → K (cartClearIrq c)
  countScanline : ∀ c, K c → K (cartCountScanline c)

section
variable {K : Cart → Prop}

theorem CartKeeps.regRead (k : CartKeeps K) (b : PpuBus) (r : BitVec 3) (h : K b.cart) :
    K (ppuRegRead b r).2.cart := by
  rcases ppuRegRead_cases b r with ⟨-, e⟩ | ⟨-, e⟩ | e <;> rw [e]
  · exact h
  · exact k.ppuRead b.cart (refillAddress b.ppu) h
  · exact h

theorem CartKeeps.regWrite (k : CartKeeps K) (b : PpuBus) (r : BitVec 3) (d : Byte) (h : K b.cart) :
    K (ppuRegWrite b r d).cart := by
  rcases ppuRegWrite_cases b r d with ⟨e, -⟩ | e <;> rw [e]
  · exact h
  · exact k.ppuWrite b.cart (b.ppu.v.setWidth 14) d h

theorem CartKeeps.read (k : CartKeeps K) (s : State) (a : Word) (h : K s.cart) : K (memRead s a).2.cart := by
  have hc : K (s.setCart (cartCpuRead s.cart a).2).cart := k.cpuRead s.cart a h
  unfold memRead
  dsimp only
  generalize s.setCart (cartCpuRead s.cart a).2 = u at hc ⊢
  split
  · exact hc
  · rcases ownReadEffect_cases u a with e | ⟨r, e⟩ | e | e | e <;> simp only [e]
    · exact hc
    · exact k.regRead u.ppuBus r hc
    · exact hc
    · exact hc
    · exact hc

theorem CartKeeps.write (k : CartKeeps K) (s : State) (a : Word) (v : Byte) (h : K s.cart) :
    K (memWrite s a v).cart := by
  have hc : K (s.setCart (cartCpuWrite s.cart a v).2).cart := k.cpuWrite s.cart a v h
  unfold memWrite
  dsimp only
  generalize s.setCart (cartCpuWrite s.cart a v).2 = u at hc ⊢
  split
  · exact hc
  · unfold ownWrite
    split
    case h_2 r _ => exact k.regWrite u.ppuBus r v hc
    all_goals exact hc

/-- Every part of a step keeps a property of the cartridge that the cartridge's functions keep (R49). -/
theorem CartKeeps.stepKeeps (k : CartKeeps K) : StepKeeps (fun s => K s.cart) where
  cpu _ _ _ h := h
  read := k.read
  write := k.write
  devices s h := ppuClock_keeps_cart k.ppuRead k.countScanline s.ppuBus h
  dma s _ h := dmaCycle_keeps (I := fun s => K s.cart) k.read (fun _ _ h => h) (fun _ _ h => h) s h
  acknowledge s h := by
    unfold acknowledgeIrq
    split
    · exact h
    · split
      · exact k.clearIrq s.cart h
      · exact h
  countSlot _ h := h
  endOfTick s h := by rw [endOfTick_cart]; exact h

end

/-! ### The memories stay canonical (O47) -/

/-- A store to a cell below the bound keeps a memory canonical (R33, R41). -/
theorem canonical_store {w bound : Nat} {m : Store w} {a : Nat} (v : BitVec w) (ha : a < bound)
    (h : canonical bound m = true) : canonical bound (Memory.store m a v) = true := by
  unfold canonical at h ⊢
  rw [Bool.and_eq_true] at h ⊢
  exact ⟨Memory.wf_store m a v h.1, Memory.below_store m a v h.2 ha⟩

/-- The PPU's four memories are canonical and list only cells that exist (R33). -/
structure Ppu.Canonical (p : Ppu) : Prop where
  oam : canonical 256 p.oam = true
  nt : canonical 0x800 p.nt = true
  pal : canonical 32 p.pal = true
  frame : canonical 61440 p.frame = true

/-- The model's check is one check per device. -/
theorem memoriesCanonical_iff (s : State) : memoriesCanonical s = true ↔
    canonical 0x800 s.ram = true ∧ s.ppu.Canonical ∧ cartCanonical s.cart = true := by
  simp only [memoriesCanonical, Bool.and_eq_true]
  constructor
  · rintro ⟨⟨⟨⟨⟨hram, hoam⟩, hnt⟩, hpal⟩, hframe⟩, hcart⟩
    exact ⟨hram, ⟨hoam, hnt, hpal, hframe⟩, hcart⟩
  · rintro ⟨hram, ⟨hoam, hnt, hpal, hframe⟩, hcart⟩
    exact ⟨⟨⟨⟨⟨hram, hoam⟩, hnt⟩, hpal⟩, hframe⟩, hcart⟩

/-- There are two physical nametables (R177). -/
theorem physicalTable_le_one (m : MirrorMode) {quadrant : Nat} (h : quadrant < 4) : physicalTable m quadrant ≤ 1 := by
  cases m <;> simp only [physicalTable] <;> omega

/-- A nametable address reaches one of the 2048 nametable bytes (R177). -/
theorem nametableKey_lt (c : Cart) (a : BitVec 14) : nametableKey c a < 0x800 := by
  have htable := physicalTable_le_one (effectiveMirror c)
    (show (a.toNat - 0x2000) % 0x1000 / 1024 < 4 by omega)
  simp only [nametableKey]
  omega

/-- A palette address reaches one of the 32 palette entries (R178). -/
theorem paletteIndex_lt (a : BitVec 14) : paletteIndex a < 32 := by
  simp only [paletteIndex]
  split <;> omega

/-- A PPU bus write stores to nametable bytes and palette entries that exist (R176). -/
theorem ppuOwnWrite_canonical (p : Ppu) (c : Cart) (a : BitVec 14) (d : Byte) (h : p.Canonical) :
    (ppuOwnWrite p c a d).Canonical := by
  unfold ppuOwnWrite
  split
  · exact h
  · split
    · exact ⟨h.oam, canonical_store d (nametableKey_lt c a) h.nt, h.pal, h.frame⟩
    · exact ⟨h.oam, h.nt, canonical_store _ (paletteIndex_lt a) h.pal, h.frame⟩

/-- A composed pixel lies on the screen (R204). -/
theorem composePixel_canonical (p : Ppu) (hline : p.scanline ≤ 239) (hdot : p.dot ≤ 256)
    (h : p.Canonical) : (composePixel p).Canonical :=
  ⟨h.oam, h.nt, h.pal, canonical_store _ (by omega) h.frame⟩

theorem stepKeeps_ramCanonical : StepKeeps (fun s => canonical 0x800 s.ram = true) :=
  stepKeeps_ram (R := fun m => canonical 0x800 m = true) fun _ _ v hi h => canonical_store v hi h

theorem ppuKeeps_canonical : PpuKeeps Ppu.Canonical where
  same _ _ e h := ⟨e.oam ▸ h.oam, e.nt ▸ h.nt, e.pal ▸ h.pal, e.frame ▸ h.frame⟩
  readStatus _ h := ⟨h.oam, h.nt, h.pal, h.frame⟩
  writeOam p _ h := ⟨canonical_store _ p.oamAddr.isLt h.oam, h.nt, h.pal, h.frame⟩
  writeOwn := ppuOwnWrite_canonical
  clear _ h := ⟨h.oam, h.nt, h.pal, h.frame⟩
  evaluate _ h := ⟨h.oam, h.nt, h.pal, h.frame⟩
  vblank _ h := ⟨h.oam, h.nt, h.pal, h.frame⟩
  pixel p hline _ hdot h := composePixel_canonical p hline hdot h

/-- The test cartridge writes to CHR RAM only where it claims the address. -/
theorem cartPpuWrite_canonical (c : Cart) (a : BitVec 14) (d : Byte) (h : cartCanonical c = true) :
    cartCanonical (cartPpuWrite c a d).2 = true := by
  cases c with
  | absent => exact h
  | custom cs => rfl
  | board m =>
    unfold cartPpuWrite
    dsimp only
    split
    · rename_i hclaim
      simp only [cartCanonical, Bool.and_eq_true] at h ⊢
      exact ⟨h.1, canonical_store d (of_decide_eq_true hclaim) h.2⟩
    · exact h

theorem cartKeeps_canonical : CartKeeps (fun c => cartCanonical c = true) where
  cpuRead c a h := by cases c <;> exact h
  cpuWrite c a d h := by cases c <;> exact h
  ppuRead c a h := by cases c <;> exact h
  ppuWrite := cartPpuWrite_canonical
  clearIrq c h := by cases c <;> exact h
  countScanline c h := by cases c <;> exact h

/-- Settles O47: RAM, the PPU's memories and the cartridge's are three invariants, each kept by every part of a step. -/
theorem memoriesKept : Obligations.MemoriesKept := by
  intro s t h e
  rw [memoriesCanonical_iff] at h ⊢
  obtain ⟨hram, hppu, hcart⟩ := h
  exact ⟨step_keeps stepKeeps_ramCanonical hram e, step_keeps ppuKeeps_canonical.stepKeeps hppu e,
    step_keeps cartKeeps_canonical.stepKeeps hcart e⟩

end Sys2Proof.Machine

/-! The invariants of the PPU and the APU (O49) and the fixed bits of P (O48), over the closures above. The APU's are
properties of its units, so the registers and the clocks are gone through once, in `apuKeeps_unitsHold`. -/

namespace Sys2Proof.Machine

/-! ### The PPU's invariants -/

/-- Bits 4:0 of the PPU status byte are 0 (R31). -/
def Ppu.StatusClean (p : Ppu) : Prop := p.status &&& 0x1F#8 = 0

/-- Bits 4:2 of every stored OAM attribute byte are 0 (R34). -/
def Ppu.AttributesClean (p : Ppu) : Prop := ∀ n, Memory.load p.oam (4 * n + 2) &&& 0x1C#8 = 0

/-- Masking a status byte stores no low bit that was not stored. -/
theorem lowBits_and {x : Byte} (m : Byte) (h : x &&& 0x1F#8 = 0) : (x &&& m) &&& 0x1F#8 = 0 := by
  rw [BitVec.and_assoc, BitVec.and_comm m, ← BitVec.and_assoc, h]
  exact BitVec.zero_and

/-- A flag of bits 7:5 stores no low bit (R31). -/
theorem lowBits_or {x f : Byte} (hf : f &&& 0x1F#8 = 0) (h : x &&& 0x1F#8 = 0) : (x ||| f) &&& 0x1F#8 = 0 := by
  grind

theorem ppuKeeps_statusClean : PpuKeeps Ppu.StatusClean where
  same p q e h := by unfold Ppu.StatusClean; rw [e.status]; exact h
  readStatus _ h := lowBits_and 0x7F#8 h
  writeOam _ _ h := h
  writeOwn p c a d h := by
    unfold ppuOwnWrite
    split
    · exact h
    · split <;> exact h
  clear _ h := lowBits_and 0x1F#8 h
  evaluate p h := by
    unfold Ppu.StatusClean evaluateSprites
    dsimp only
    split
    · exact lowBits_or (by decide) h
    · exact h
  vblank _ h := lowBits_or (by decide) h
  pixel p _ _ _ h := by
    unfold Ppu.StatusClean composePixel
    dsimp only
    split
    · exact lowBits_or (by decide) h
    · exact h

/-- The $2004 store masks an attribute byte before it is stored (R34, R186). -/
theorem writeOamData_attributesClean (p : Ppu) (d : Byte) (h : p.AttributesClean) :
    (writeOamData p d).AttributesClean := by
  intro n
  unfold writeOamData
  dsimp only
  by_cases hn : 4 * n + 2 = p.oamAddr.toNat
  · have hattr : p.oamAddr.toNat % 4 = 2 := by omega
    rw [hn, Memory.load_store_same, oamMask, if_pos hattr, BitVec.and_assoc]
    exact BitVec.and_zero
  · rw [Memory.load_store_other _ _ hn]
    exact h n

theorem ppuKeeps_attributesClean : PpuKeeps Ppu.AttributesClean where
  same p q e h := by unfold Ppu.AttributesClean; rw [e.oam]; exact h
  readStatus _ h := h
  writeOam := writeOamData_attributesClean
  writeOwn p c a d h := by
    unfold ppuOwnWrite
    split
    · exact h
    · split <;> exact h
  clear _ h := h
  evaluate _ h := h
  vblank _ h := h
  pixel _ _ _ _ h := h

/-! ### The APU's units -/

/-- Three properties, of the three envelopes, of the four length counters, and of the LFSR. -/
structure Apu.UnitsHold (E : Envelope → Prop) (L : LengthCounter → Prop) (S : BitVec 15 → Prop) (a : Apu) : Prop where
  envelope1 : E a.pulse1.envelope
  envelope2 : E a.pulse2.envelope
  envelopeNoise : E a.noise.envelope
  length1 : L a.pulse1.length
  length2 : L a.pulse2.length
  lengthTriangle : L a.triangle.length
  lengthNoise : L a.noise.length
  shift : S a.noise.shift

/-- What a property of envelopes needs to be kept (R212, R222, R225). -/
structure EnvelopeKeeps (E : Envelope → Prop) : Prop where
  clock : ∀ e, E e → E e.clock
  control : ∀ e d, E e → E (e.control d)
  restart : ∀ e, E e → E { e with restart := true }

/-- What a property of length counters needs to be kept (R211). -/
structure LengthKeeps (L : LengthCounter → Prop) : Prop where
  clock : ∀ l, L l → L l.clock
  halt : ∀ l b, L l → L { l with halt := b }
  load : ∀ l i, L l → L (l.load i)
  setEnabled : ∀ l b, L l → L (l.setEnabled b)

section
variable {E : Envelope → Prop} {L : LengthCounter → Prop} {S : BitVec 15 → Prop}

theorem quarterFrame_unitsHold (kE : EnvelopeKeeps E) (a : Apu) (h : a.UnitsHold E L S) :
    (quarterFrame a).UnitsHold E L S :=
  { h with
    envelope1 := kE.clock _ h.envelope1
    envelope2 := kE.clock _ h.envelope2
    envelopeNoise := kE.clock _ h.envelopeNoise }

theorem halfFrame_unitsHold (kL : LengthKeeps L) (a : Apu) (h : a.UnitsHold E L S) :
    (halfFrame a).UnitsHold E L S :=
  { h with
    length1 := kL.clock _ h.length1
    length2 := kL.clock _ h.length2
    lengthTriangle := kL.clock _ h.lengthTriangle
    lengthNoise := kL.clock _ h.lengthNoise }

/-- The units hold after the frame counter's clocks of a CPU cycle (R219). -/
theorem frameCycle_unitsHold (kE : EnvelopeKeeps E) (kL : LengthKeeps L) (a : Apu) (h : a.UnitsHold E L S) :
    (frameCycle a).UnitsHold E L S := by
  have hframe : Apu.UnitsHold E L S { a with frame := a.frame.advance } := { h with }
  unfold frameCycle
  dsimp only
  split <;> split
  · exact halfFrame_unitsHold kL _ (quarterFrame_unitsHold kE _ hframe)
  · exact halfFrame_unitsHold kL _ hframe
  · exact quarterFrame_unitsHold kE _ hframe
  · exact hframe

/-- The timers' clocks change of the units the LFSR alone (R217, R233). -/
theorem clockTimers_unitsHold (kS : ∀ m x, S x → S (lfsrNext m x)) (a : Apu) (h : a.UnitsHold E L S) :
    (clockTimers a).UnitsHold E L S := by
  have hshift : S a.noise.clockTimer.shift := by
    unfold Noise.clockTimer
    dsimp only
    split
    · exact kS _ _ h.shift
    · exact h.shift
  unfold clockTimers
  dsimp only
  split
  · exact { h with shift := hshift }
  · exact { h with }

theorem apuClock_unitsHold (kE : EnvelopeKeeps E) (kL : LengthKeeps L) (kS : ∀ m x, S x → S (lfsrNext m x))
    (p : Params) (cpuCycle : Bool) (a : Apu) (h : a.UnitsHold E L S) : (apuClock p cpuCycle a).UnitsHold E L S := by
  cases cpuCycle with
  | false => exact { h with }
  | true =>
    have hsweeps : (recomputeSweeps a).UnitsHold E L S := { h with }
    have htimers := clockTimers_unitsHold kS _ (frameCycle_unitsHold kE kL _ hsweeps)
    exact { htimers with }

/-- A $4017 write that selects five steps clocks the envelopes and the length counters (R220). -/
theorem writeFrameCounter_unitsHold (kE : EnvelopeKeeps E) (kL : LengthKeeps L) (a : Apu) (d : Byte)
    (h : a.UnitsHold E L S) : (writeFrameCounter a d).UnitsHold E L S := by
  unfold writeFrameCounter
  dsimp only
  split
  · exact halfFrame_unitsHold kL _ (quarterFrame_unitsHold kE _ { h with })
  · exact { h with }

/-- A CPU write to an APU register, register by register (R221-R231). -/
theorem apuRegWrite_unitsHold (kE : EnvelopeKeeps E) (kL : LengthKeeps L) (a : Apu) (r : Nat) (d : Byte)
    (h : a.UnitsHold E L S) : (apuRegWrite a r d).UnitsHold E L S := by
  unfold apuRegWrite
  split
  case h_1 => exact { h with envelope1 := kE.control _ _ h.envelope1, length1 := kL.halt _ _ h.length1 }
  case h_4 => exact { h with envelope1 := kE.restart _ h.envelope1, length1 := kL.load _ _ h.length1 }
  case h_5 => exact { h with envelope2 := kE.control _ _ h.envelope2, length2 := kL.halt _ _ h.length2 }
  case h_8 => exact { h with envelope2 := kE.restart _ h.envelope2, length2 := kL.load _ _ h.length2 }
  case h_9 => exact { h with lengthTriangle := kL.halt _ _ h.lengthTriangle }
  case h_11 => exact { h with lengthTriangle := kL.load _ _ h.lengthTriangle }
  case h_12 =>
    exact { h with
      envelopeNoise := kE.control _ _ h.envelopeNoise
      lengthNoise := kL.halt _ _ h.lengthNoise }
  case h_14 =>
    exact { h with
      envelopeNoise := kE.restart _ h.envelopeNoise
      lengthNoise := kL.load _ _ h.lengthNoise }
  case h_15 =>
    exact { h with
      length1 := kL.setEnabled _ _ h.length1
      length2 := kL.setEnabled _ _ h.length2
      lengthTriangle := kL.setEnabled _ _ h.lengthTriangle
      lengthNoise := kL.setEnabled _ _ h.lengthNoise }
  case h_16 => exact writeFrameCounter_unitsHold kE kL a d h
  all_goals exact { h with }

/-- Every step keeps properties of the APU's units that the units' own operations keep. -/
theorem apuKeeps_unitsHold (kE : EnvelopeKeeps E) (kL : LengthKeeps L) (kS : ∀ m x, S x → S (lfsrNext m x)) :
    ApuKeeps (Apu.UnitsHold E L S) where
  readStatus _ h := { h with }
  regWrite := apuRegWrite_unitsHold kE kL
  clock := apuClock_unitsHold kE kL kS

end

/-! ### The three invariants of the APU's units -/

/-- A divider's clock does not change its period (R208). -/
theorem Divider.clock_period {w : Nat} (d : Divider w) : d.clock.2.period = d.period := by
  unfold Divider.clock
  split <;> rfl

theorem envelopeKeeps_periodTied : EnvelopeKeeps envelopePeriodTied where
  clock e h := by
    unfold envelopePeriodTied Envelope.clock
    split
    · exact h
    · exact (Divider.clock_period e.divider).trans h
  control _ _ _ := rfl
  restart _ h := h

theorem lengthKeeps_clamped : LengthKeeps lengthClamped where
  clock l h := by
    unfold LengthCounter.clock
    split
    · rename_i hruns
      intro hoff
      simp only [h hoff, bne_self_eq_false, Bool.and_false, Bool.false_eq_true] at hruns
    · exact h
  halt _ _ h := h
  load l i h := by
    unfold LengthCounter.load
    split
    · rename_i hon
      exact fun hoff => absurd (hon.symm.trans hoff) (by decide)
    · exact h
  setEnabled l b h := fun hoff => if_neg (by rw [show b = false from hoff]; decide)

/-- The feedback keeps the LFSR's last 1: where only bit 0 is set, it enters bit 14 (R40, R217). -/
theorem lfsrNext_ne_zero (mode : Bool) (x : BitVec 15) (h : x ≠ 0) : lfsrNext mode x ≠ 0 := by
  intro hnext
  unfold lfsrNext at hnext
  dsimp only at hnext
  obtain ⟨hshift, hfeed⟩ := BitVec.or_eq_zero_iff.mp hnext
  have hone : x = 1#15 := by bv_omega
  subst hone
  revert hfeed
  cases mode <;> decide

theorem envelopeKeeps_true : EnvelopeKeeps (fun _ => True) :=
  ⟨fun _ _ => trivial, fun _ _ _ => trivial, fun _ _ => trivial⟩

theorem lengthKeeps_true : LengthKeeps (fun _ => True) :=
  ⟨fun _ _ => trivial, fun _ _ _ => trivial, fun _ _ _ => trivial, fun _ _ _ => trivial⟩

theorem envelopesTied_iff (s : State) :
    envelopesTied s ↔ s.apu.UnitsHold envelopePeriodTied (fun _ => True) (fun _ => True) :=
  ⟨fun ⟨h1, h2, hn⟩ => ⟨h1, h2, hn, trivial, trivial, trivial, trivial, trivial⟩,
    fun h => ⟨h.envelope1, h.envelope2, h.envelopeNoise⟩⟩

theorem lengthsClamped_iff (s : State) :
    lengthsClamped s ↔ s.apu.UnitsHold (fun _ => True) lengthClamped (fun _ => True) :=
  ⟨fun ⟨h1, h2, ht, hn⟩ => ⟨trivial, trivial, trivial, h1, h2, ht, hn, trivial⟩,
    fun h => ⟨h.length1, h.length2, h.lengthTriangle, h.lengthNoise⟩⟩

theorem shift_ne_zero_iff (s : State) :
    s.apu.noise.shift ≠ 0 ↔ s.apu.UnitsHold (fun _ => True) (fun _ => True) (· ≠ 0) :=
  ⟨fun h => ⟨trivial, trivial, trivial, trivial, trivial, trivial, trivial, h⟩, fun h => h.shift⟩

/-! ### The invariants of the devices and of P -/

/-- Settles O49: each of the five is an invariant of one device, kept by that device's operations. -/
theorem deviceInvariantsKept : Obligations.DeviceInvariantsKept := by
  intro s t e
  rw [envelopesTied_iff, envelopesTied_iff, lengthsClamped_iff, lengthsClamped_iff, shift_ne_zero_iff,
    shift_ne_zero_iff]
  have henvelopes := apuKeeps_unitsHold (S := fun _ => True) envelopeKeeps_periodTied lengthKeeps_true
    fun _ _ _ => trivial
  have hlengths := apuKeeps_unitsHold (S := fun _ => True) envelopeKeeps_true lengthKeeps_clamped fun _ _ _ => trivial
  have hshift := apuKeeps_unitsHold envelopeKeeps_true lengthKeeps_true lfsrNext_ne_zero
  exact ⟨fun h => step_keeps ppuKeeps_statusClean.stepKeeps h e,
    fun h => step_keeps ppuKeeps_attributesClean.stepKeeps h e, fun h => step_keeps henvelopes.stepKeeps h e,
    fun h => step_keeps hlengths.stepKeeps h e, fun h => step_keeps hshift.stepKeeps h e⟩

theorem stepKeeps_statusFixed : StepKeeps (fun s => statusFixed s.cpu.p) where
  cpu _ _ hp h := hp h
  read s a h := by rw [memRead_cpu]; exact h
  write s a v h := by rw [memWrite_cpu]; exact h
  devices _ h := h
  dma s _ h := dmaCycle_keeps (I := fun s => statusFixed s.cpu.p) (fun s a h => by rw [memRead_cpu]; exact h)
    (fun _ _ h => h) (fun _ _ h => h) s h
  acknowledge s h := acknowledgeIrq_keeps (I := fun s => statusFixed s.cpu.p) (fun _ _ h => h) s h
  countSlot _ h := h
  endOfTick s h := by rw [endOfTick_cpu]; exact h

/-- Settles O48: every write of P forces its fixed bits, and the parameters are as `step_params` says. -/
theorem statusBitsKept : Obligations.StatusBitsKept := fun _ _ h e =>
  ⟨step_keeps stepKeeps_statusFixed h e, step_params e⟩

end Sys2Proof.Machine

/-! The instruction a step runs is the one the bytes at PC decode to (O38): the decoder and the encoder agree on the
length of every form, the fetch through the bus reads the bytes the peek shows, and the parts of a tick come in the
order of R238 and R239. -/

namespace Sys2Proof

/-- A form's instructions have a code of one byte, two or three (R64). -/
def Form.HasCodeLength : Form → Prop
  | .implied i => (encode i).length = 1
  | .byte mk => ∀ v, (encode (mk v)).length = 2
  | .word mk => ∀ w, (encode (mk w)).length = 3

/-- Every entry of the opcode map has the code length of its form (R64, R67). -/
theorem opcodeMap_hasCodeLength : ∀ row ∈ opcodeMap, ∀ f ∈ row, f.HasCodeLength := by
  simp only [opcodeMap, opcodeRow0, opcodeRow1, opcodeRow2, opcodeRow3, opcodeRow4, opcodeRow5, opcodeRow6, opcodeRow7,
    opcodeRow8, opcodeRow9, opcodeRowA, opcodeRowB, opcodeRowC, opcodeRowD, opcodeRowE, opcodeRowF,
    List.forall_mem_cons, List.not_mem_nil, false_implies, implies_true, and_true, Form.HasCodeLength]
  repeat' apply And.intro
  all_goals intros; rfl

/-- A property of a list's entries and of the default holds of what `getD` answers. -/
theorem getD_of_forall {α : Type} {Q : α → Prop} {l : List α} {d : α} (h : ∀ x ∈ l, Q x) (hd : Q d) (n : Nat) :
    Q (l.getD n d) := by
  rw [List.getD_eq_getElem?_getD]
  cases e : l[n]? with
  | none => exact hd
  | some x => exact h x (List.mem_of_getElem? e)

theorem formOf_hasCodeLength (op : Byte) : (formOf op).HasCodeLength := by
  have hrow : ∀ f ∈ opcodeMap.getD (op.toNat / 16) [], f.HasCodeLength :=
    getD_of_forall (Q := fun row => ∀ f ∈ row, Form.HasCodeLength f) opcodeMap_hasCodeLength
      (fun _ h => absurd h List.not_mem_nil) _
  exact getD_of_forall (Q := Form.HasCodeLength) hrow (show Form.HasCodeLength (.implied .nop) from rfl) _

/-- What three bytes decode to: the form of the first one, completed by the others (R64, R66). -/
theorem decode_three_cases {op b1 b2 : Byte} {i : Instr} {rest : List Byte}
    (h : decode [op, b1, b2] = .ok (i, rest)) :
    formOf op = .implied i ∨ (∃ mk, formOf op = .byte mk ∧ i = mk b1) ∨
    ∃ mk, formOf op = .word mk ∧ i = mk (wordOf b2 b1) := by
  unfold decode at h
  cases hf : formOf op with
  | implied j => simp only [hf] at h; injection h with h; injection h with h; exact .inl (by rw [h])
  | byte mk => simp only [hf] at h; injection h with h; injection h with h; exact .inr (.inl ⟨mk, rfl, h.symm⟩)
  | word mk => simp only [hf] at h; injection h with h; injection h with h; exact .inr (.inr ⟨mk, rfl, h.symm⟩)

end Sys2Proof

namespace Sys2Proof.Machine

/-! ### The fetch of plain bytes -/

/-- A byte of plain memory is RAM's or the cartridge's: it shows the same on machines with the same of both (R45). -/
theorem peek_plain_congr {s t : State} {a : Word} (h : PlainAddress s a) (hram : t.ram = s.ram)
    (hcart : t.cart = s.cart) : peek t a = peek s a := by
  unfold peek
  rw [hcart]
  rcases h.2 with ha | ha
  · simp only [ownValue, regionOf_ram ha, hram]
  · simp only [ownValue, regionOf_unmapped ha]

/-- The devices' clocks leave a cartridge whose contents are listed as it is (R192). -/
theorem clockDevices_cart_listed {s : State} (h : ∀ cs, s.cart ≠ .custom cs) : (clockDevices s).cart = s.cart :=
  ppuClock_cart s.ppuBus h

/-- A fetch from plain memory reads what the peek shows and moves PC alone (R14, R46). -/
theorem fetch8_plain {s : State} (h : PlainAddress s s.cpu.pc) :
    fetch8 s = (peek s s.cpu.pc, s.setPc (s.cpu.pc + 1)) := by
  unfold fetch8
  rw [memRead_plain s s.cpu.pc h]

/-- The fetch of the byte after another (R57). -/
theorem fetch8_plain_setPc {s : State} {a : Word} (h : PlainAddress s a) :
    fetch8 (s.setPc a) = (peek s a, s.setPc (a + 1)) := by
  rw [fetch8_plain (s := s.setPc a) h, setPc_eq, peek_setCpu]
  rfl

/-- An opcode byte that needs no operand (R64). -/
theorem fetchInstr_implied {s : State} {i : Instr} (h0 : PlainAddress s s.cpu.pc)
    (hf : formOf (peek s s.cpu.pc) = .implied i) : fetchInstr s = (i, s.setPc (s.cpu.pc + 1)) := by
  unfold fetchInstr
  rw [fetch8_plain h0]
  simp only [hf, fetchOperands]

/-- An opcode byte and an operand byte (R64). -/
theorem fetchInstr_byte {s : State} {mk : Byte → Instr} (h0 : PlainAddress s s.cpu.pc)
    (h1 : PlainAddress s (s.cpu.pc + 1)) (hf : formOf (peek s s.cpu.pc) = .byte mk) :
    fetchInstr s = (mk (peek s (s.cpu.pc + 1)), s.setPc (s.cpu.pc + 1 + 1)) := by
  unfold fetchInstr
  rw [fetch8_plain h0]
  simp only [hf, fetchOperands, fetch8_plain_setPc h1]

/-- An opcode byte and an operand word, low byte first (R64, R66). -/
theorem fetchInstr_word {s : State} {mk : Word → Instr} (h0 : PlainAddress s s.cpu.pc)
    (h1 : PlainAddress s (s.cpu.pc + 1)) (h2 : PlainAddress s (s.cpu.pc + 1 + 1))
    (hf : formOf (peek s s.cpu.pc) = .word mk) :
    fetchInstr s = (mk (wordOf (peek s (s.cpu.pc + 1 + 1)) (peek s (s.cpu.pc + 1))),
      s.setPc (s.cpu.pc + 1 + 1 + 1)) := by
  unfold fetchInstr
  rw [fetch8_plain h0]
  simp only [hf, fetchOperands, fetch8_plain_setPc h1, fetch8_plain_setPc h2]

/-- The addresses of an instruction's bytes, counted from PC (R20). -/
theorem pc_add_two (a : Word) : a + 1 + 1 = a + BitVec.ofNat 16 2 := BitVec.add_assoc a 1 1

theorem pc_add_three (a : Word) : a + 1 + 1 + 1 = a + BitVec.ofNat 16 3 :=
  (pc_add_two (a + 1)).trans (BitVec.add_assoc a 1 2)

/-- The fetch of an instruction on a machine that agrees with `s` on the plain memory under the bytes at PC: it gives
the instruction that `s` shows there, with PC past its bytes (R20, R57). -/
theorem fetchInstr_plain {s u : State} {i : Instr} {rest : List Byte} (hpc : u.cpu.pc = s.cpu.pc)
    (hu : ∀ a, PlainAddress s a → PlainAddress u a ∧ peek u a = peek s a)
    (hd : decode (peekBytes s s.cpu.pc 3) = .ok (i, rest))
    (plain : ∀ k, k < (encode i).length → PlainAddress s (s.cpu.pc + BitVec.ofNat 16 k)) :
    fetchInstr u = (i, u.setPc (s.cpu.pc + BitVec.ofNat 16 (encode i).length)) := by
  have hlength := formOf_hasCodeLength (peek s s.cpu.pc)
  have at0 (h : 0 < (encode i).length) := hu s.cpu.pc (by simpa using plain 0 h)
  have at1 (h : 1 < (encode i).length) := hu (s.cpu.pc + 1) (plain 1 h)
  have at2 (h : 2 < (encode i).length) := hu (s.cpu.pc + 1 + 1) (by rw [pc_add_two]; exact plain 2 h)
  rcases decode_three_cases hd with hf | ⟨mk, hf, rfl⟩ | ⟨mk, hf, rfl⟩ <;> rw [hf] at hlength
  · have hlen : (encode i).length = 1 := hlength
    obtain ⟨p0, e0⟩ := at0 (by omega)
    rw [← hpc] at p0 e0 hf ⊢
    rw [fetchInstr_implied p0 (by rw [e0]; exact hf), hlen]
    rfl
  · have hlen := hlength (peek s (s.cpu.pc + 1))
    obtain ⟨p0, e0⟩ := at0 (by omega)
    obtain ⟨p1, e1⟩ := at1 (by omega)
    rw [hlen, ← pc_add_two]
    rw [← hpc] at *
    rw [fetchInstr_byte p0 p1 (by rw [e0]; exact hf), e1]
  · have hlen := hlength (wordOf (peek s (s.cpu.pc + 1 + 1)) (peek s (s.cpu.pc + 1)))
    obtain ⟨p0, e0⟩ := at0 (by omega)
    obtain ⟨p1, e1⟩ := at1 (by omega)
    obtain ⟨p2, e2⟩ := at2 (by omega)
    rw [hlen, ← pc_add_three]
    rw [← hpc] at *
    rw [fetchInstr_word p0 p1 p2 (by rw [e0]; exact hf), e1, e2]

/-! ### The parts of a tick -/

/-- Consecutive changes of a completed part. -/
theorem thenNext_thenNext (o : Host.Outcome State Fault Refusal) (f g : State → State) :
    thenNext (thenNext o f) g = thenNext o (fun t => g (f t)) := by
  cases o <;> rfl

/-- A tick whose slot is the CPU's and starts at a boundary (R238, R239). -/
theorem step_at_boundary {s : State} (hc : consistent s = true) (ht : isCpuTick s = true) (hd : s.dma.active = false)
    (hb : s.cpu.budget = 0) :
    step s = thenNext (cpuBoundary (clockDevices s)) (fun t => endOfTick (countSlot (spendCycle t))) := by
  have hslot : cpuSlot (clockDevices s) =
      thenNext (thenNext (cpuBoundary (clockDevices s)) spendCycle) countSlot := by
    simp only [cpuSlot, cpuCycle, clockDevices_dma, clockDevices_cpu, hd, hb, if_true, Bool.false_eq_true, if_false]
  simp only [step, clockTick, masterTick, hc, ht, if_true]
  rw [hslot, thenNext_thenNext, thenNext_thenNext]

/-- With no jam and no interrupt taken first, the boundary fetches and executes (R253). -/
theorem cpuBoundary_fetches {s : State} (hj : s.cpu.jammed = false) (hn : s.cpu.nmiPending = false)
    (hi : s.cpu.irqLine = false ∨ getFlag s.cpu.p .i = true) : cpuBoundary s = fetchExecute s := by
  have hirq : (s.cpu.irqLine && !getFlag s.cpu.p .i) = false := by
    rcases hi with h | h <;> simp only [h, Bool.false_and, Bool.not_true, Bool.and_false]
  simp only [cpuBoundary, hj, hn, hirq, Bool.false_eq_true, if_false]

/-- Settles O38: the devices' clocks leave PC and plain memory alone, so the fetch finds the decoded instruction. -/
theorem stepRunsDecodedInstruction : Obligations.StepRunsDecodedInstruction := by
  intro s i rest hc ht hat hd plain
  obtain ⟨hdma, hbudget, hjam, hnmi, hirq⟩ := hat
  have agree : ∀ a, PlainAddress s a → PlainAddress (clockDevices s) a ∧ peek (clockDevices s) a = peek s a := by
    intro a h
    have hcart := clockDevices_cart_listed h.1
    exact ⟨⟨by rw [hcart]; exact h.1, h.2⟩, peek_plain_congr h rfl hcart⟩
  have hfetch := fetchInstr_plain (s := s) (u := clockDevices s) rfl agree hd plain
  rw [step_at_boundary hc ht hdma hbudget, cpuBoundary_fetches (s := clockDevices s) hjam hnmi hirq, fetchExecute, hfetch]

end Sys2Proof.Machine

/-! What CPU bus accesses read and write (O6, O7, O8) and the machine at power-on (O45): spec/20_memory.md R45-R48 and
spec/70_reset_and_hazards.md R269, R270. -/

namespace Sys2Proof.Machine

/-! ### The cartridge comes first -/

/-- A claimed read gives the cartridge's byte and changes the cartridge alone (R46). -/
theorem memRead_claimed {s : State} {a : Word} {x : Byte} (h : (cartCpuRead s.cart a).1 = some x) :
    memRead s a = (x, s.setCart (cartCpuRead s.cart a).2) := by
  simp only [memRead, h]

/-- An unclaimed read is answered by the core, on the machine with the cartridge state the question left (R46). -/
theorem memRead_unclaimed {s : State} {a : Word} (h : (cartCpuRead s.cart a).1 = none) :
    memRead s a = (ownValue (s.setCart (cartCpuRead s.cart a).2) a,
      ownReadEffect (s.setCart (cartCpuRead s.cart a).2) a) := by
  simp only [memRead, h]

/-- A claimed write changes the cartridge alone (R48). -/
theorem memWrite_claimed {s : State} {a : Word} {v : Byte} (h : (cartCpuWrite s.cart a v).1 = true) :
    memWrite s a v = s.setCart (cartCpuWrite s.cart a v).2 := by
  simp only [memWrite, h, if_true]

/-- The decoder on the APU's write-only registers (R45). -/
theorem regionOf_apu {a : Word} (hlo : 0x4000 ≤ a.toNat) (hhi : a.toNat < 0x4014) :
    regionOf a = .apu (a.toNat - 0x4000) := by
  have notRam : ¬ a.toNat < 0x2000 := by omega
  have notPpu : ¬ a.toNat < 0x4000 := by omega
  simp only [regionOf, notRam, notPpu, hhi, if_false, if_true]

/-- The decoder on the OAM DMA register (R45). -/
theorem regionOf_oamDma {a : Word} (h : a.toNat = 0x4014) : regionOf a = .oamDma := by
  simp only [regionOf, h]
  rfl

/-- Below the APU's status register and above the controller ports the core has nothing to read (R45). -/
theorem ownRead_of_unreadable (s : State) {a : Word}
    (h : (0x4000 ≤ a.toNat ∧ a.toNat ≤ 0x4014) ∨ 0x4018 ≤ a.toNat) :
    ownValue s a = 0 ∧ ownReadEffect s a = s := by
  rcases h with ⟨hlo, hhi⟩ | hhigh
  · rcases Nat.lt_or_eq_of_le hhi with hlt | heq
    · simp only [ownValue, ownReadEffect, regionOf_apu hlo hlt, and_self]
    · simp only [ownValue, ownReadEffect, regionOf_oamDma heq, and_self]
  · simp only [ownValue, ownReadEffect, regionOf_unmapped hhigh, and_self]

/-- Settles O8: a claimed access ends with the cartridge, an unclaimed read there finds nothing in the core. -/
theorem cartridgeComesFirst : Obligations.CartridgeComesFirst := by
  intro s a v
  refine ⟨fun x => memRead_claimed, memWrite_claimed, fun hnone hrange => ?_⟩
  obtain ⟨hvalue, heffect⟩ := ownRead_of_unreadable (s.setCart (cartCpuRead s.cart a).2) hrange
  rw [memRead_unclaimed hnone, hvalue, heffect]

/-! ### The peek -/

/-- Settles O7: the peek is `memRead_value`, and no read side effect reaches the CPU or a memory of the core. -/
theorem peekIsTheReadValue : Obligations.PeekIsTheReadValue := fun s a =>
  ⟨(memRead_value s a).symm, memRead_cpu s a, memRead_memories s a⟩

/-! ### Internal RAM -/

/-- A cartridge whose contents are listed claims no read of internal RAM. -/
theorem cartCpuRead_ram {c : Cart} (h : ∀ cs, c ≠ .custom cs) {a : Word} (ha : a.toNat < 0x2000) :
    (cartCpuRead c a).1 = none := by
  cases c with
  | absent => rfl
  | board m =>
    have unclaimed : boardClaimsCpu a = false := decide_eq_false (by omega)
    simp only [cartCpuRead, unclaimed, Bool.false_eq_true, if_false]
  | custom cs => exact absurd rfl (h cs)

/-- In RAM the peek shows the RAM byte, when the cartridge lists its contents (R45, R47). -/
theorem peek_ram {s : State} (h : ∀ cs, s.cart ≠ .custom cs) {a : Word} (ha : a.toNat < 0x2000) :
    peek s a = ramByte s a := by
  simp only [peek, cartCpuRead_ram h ha, ownValue, regionOf_ram ha, ramByte]

/-- Mirrors of an address reach one byte of RAM (R45). -/
theorem ramByte_mirror (s : State) {a b : Word} (h : a.toNat % 0x800 = b.toNat % 0x800) :
    ramByte s b = ramByte s a := by
  simp only [ramByte, h]

/-- Settles O6: the byte the write leaves in RAM is the one every mirror reads, and reading RAM has no effect. -/
theorem ramReadsBackTheWrite : Obligations.RamReadsBackTheWrite := by
  intro s a b v hlisted ha hb hmirror
  have hlisted' : ∀ cs, (memWrite s a v).cart ≠ .custom cs := (memWrite_prg s a v hlisted).1
  have hread : memRead (memWrite s a v) b = (v, memWrite s a v) := by
    rw [memRead_plain _ b ⟨hlisted', .inl hb⟩, peek_ram hlisted' hb, ramByte_mirror _ hmirror,
      ramByte_memWrite s hlisted a v ha]
  rw [hread]
  exact ⟨rfl, rfl, memWrite_memoryFrame s a v⟩

/-! ### Power-on -/

/-- With no cartridge a read above the registers gives 0 and does nothing (R45, R50). -/
theorem memRead_absent {s : State} (h : s.cart = .absent) {a : Word} (ha : 0x4018 ≤ a.toNat) :
    memRead s a = (0, s) := by
  have hplain : PlainAddress s a := ⟨fun cs => by simp only [h, ne_eq, reduceCtorEq, not_false_iff], .inr ha⟩
  rw [memRead_plain s a hplain, peek_high s a ha, h]
  rfl

/-- With no cartridge the CPU's `Reset()` reads the vector as 0 and changes the CPU alone (R51, R257). -/
theorem resetEntry_absent {s : State} (h : s.cart = .absent) :
    resetEntry s = s.setCpu { s.cpu with
      pc := 0
      sp := s.cpu.sp - 3
      p := setFlag s.cpu.p .i true
      nmiPending := false
      jammed := false
      budget := 7 } := by
  have hvector : read16 s resetVector = (0, s) := by
    simp only [read16, readPair, memRead_absent h (a := resetVector) (by decide),
      memRead_absent h (a := resetVector + 1) (by decide)]
    rfl
  simp only [resetEntry, hvector]

/-- Settles O45: `Reset()` on the machine as powered on, and the fields of the state it gives. -/
theorem powerOnIsReset : Obligations.PowerOnIsReset := by
  refine ⟨?_, rfl, rfl, rfl, rfl, rfl, rfl, rfl, rfl⟩
  rw [powerOn, resetEntry_absent rfl]
  rfl

end Sys2Proof.Machine

/-! The encoding (O1 to O5; spec/30_encoding.md R63-R67, R72). A string of bytes is the code of an instruction exactly
when its first byte selects a form and the bytes after it are that form's operands, `encode_eq_cons_iff`; what the
decoder answers and what the mode table accepts are read off from there. -/

namespace Sys2Proof

/-! ### Words and their two bytes -/

@[simp] theorem wordOf_hiByte_loByte (w : Word) : wordOf (hiByte w) (loByte w) = w :=
  (BitVec.extractLsb'_append_extractLsb'_eq_extractLsb' rfl).trans BitVec.extractLsb'_eq_self

@[simp] theorem loByte_wordOf (hi lo : Byte) : loByte (wordOf hi lo) = lo := BitVec.extractLsb'_append_eq_right

@[simp] theorem hiByte_wordOf (hi lo : Byte) : hiByte (wordOf hi lo) = hi := BitVec.extractLsb'_append_eq_left

/-! ### Forms and the instructions they build -/

/-- The operand bytes from which a form builds an instruction, a word low byte first (R64, R66). -/
inductive Form.Builds : Form → List Byte → Instr → Prop where
  | implied (i : Instr) : Builds (.implied i) [] i
  | byte (mk : Byte → Instr) (v : Byte) : Builds (.byte mk) [v] (mk v)
  | word (mk : Word → Instr) (w : Word) : Builds (.word mk) [loByte w, hiByte w] (mk w)

/-- How many operand bytes a form takes (R64). -/
def Form.operandBytes : Form → Nat
  | .implied _ => 0
  | .byte _ => 1
  | .word _ => 2

/-- A form builds an instruction from every string of operand bytes of its length, and from no other. -/
theorem Form.exists_builds_iff (f : Form) (operands : List Byte) :
    (∃ i, f.Builds operands i) ↔ operands.length = f.operandBytes := by
  constructor
  · rintro ⟨i, h⟩
    cases h <;> rfl
  · intro h
    cases f with
    | implied i =>
      obtain rfl := List.length_eq_zero_iff.mp h
      exact ⟨i, .implied i⟩
    | byte mk =>
      obtain ⟨v, rfl⟩ := List.length_eq_one_iff.mp h
      exact ⟨mk v, .byte mk v⟩
    | word mk =>
      obtain ⟨lo, hi, rfl⟩ := List.length_eq_two.mp h
      exact ⟨mk (wordOf hi lo), by simpa using Form.Builds.word mk (wordOf hi lo)⟩

/-- The decoder takes the operands of the form its opcode byte selects, and answers what the form builds from them. -/
theorem decode_cons_eq_ok_iff (op : Byte) (bs rest : List Byte) (i : Instr) :
    decode (op :: bs) = .ok (i, rest) ↔ ∃ operands, bs = operands ++ rest ∧ (formOf op).Builds operands i := by
  constructor
  · intro h
    simp only [decode] at h
    split at h <;> cases h
    next hform => exact ⟨[], rfl, hform ▸ .implied i⟩
    next mk v hform => exact ⟨[v], rfl, hform ▸ .byte mk v⟩
    next mk lo hi hform => exact ⟨[lo, hi], rfl, by simpa [hform] using Form.Builds.word mk (wordOf hi lo)⟩
  · rintro ⟨operands, rfl, h⟩
    generalize hform : formOf op = f at h
    cases h <;> simp [decode, hform]

/-! ### The opcode map against the encoder -/

/-- The opcode byte of the codes of a form's instructions, read off from the instruction with operand 0. -/
def Form.opcode : Form → Byte
  | .implied i => (encode i).headD 0
  | .byte mk => (encode (mk 0)).headD 0
  | .word mk => (encode (mk 0)).headD 0

/-- The codes of a form's instructions are its opcode byte and the operands they were built from. -/
def Form.HasCodes (f : Form) : Prop :=
  ∀ operands i, f.Builds operands i → encode i = f.opcode :: operands

/-- Every entry of the opcode map takes its operands to the encoder's operand bytes (R64, R67). -/
theorem opcodeMap_hasCodes : ∀ row ∈ opcodeMap, ∀ f ∈ row, f.HasCodes := by
  simp only [opcodeMap, opcodeRow0, opcodeRow1, opcodeRow2, opcodeRow3, opcodeRow4, opcodeRow5, opcodeRow6, opcodeRow7,
    opcodeRow8, opcodeRow9, opcodeRowA, opcodeRowB, opcodeRowC, opcodeRowD, opcodeRowE, opcodeRowF,
    List.forall_mem_cons, List.not_mem_nil, false_implies, implies_true, and_true]
  repeat' apply And.intro
  all_goals
    rintro _ _ ⟨⟩
    rfl

theorem formOf_hasCodes (op : Byte) : (formOf op).HasCodes := by
  have hrow : ∀ f ∈ opcodeMap.getD (op.toNat / 16) [], f.HasCodes :=
    getD_of_forall (Q := fun row => ∀ f ∈ row, Form.HasCodes f) opcodeMap_hasCodes
      (fun _ h => absurd h List.not_mem_nil) _
  have hdefault : (Form.implied .nop).HasCodes := by
    rintro _ _ ⟨⟩
    rfl
  exact getD_of_forall (Q := Form.HasCodes) hrow hdefault _

/-- The map's entry at an opcode byte holds the instructions that the encoder gives this byte (R67). -/
theorem opcode_formOf : ∀ op : Byte, (formOf op).opcode = op := by decide

/-- The map's entry at the opcode byte of an instruction's code builds the instruction from the operand bytes. -/
theorem formOf_builds_encode (i : Instr) : ∃ op operands, encode i = op :: operands ∧ (formOf op).Builds operands i := by
  cases i <;> exact ⟨_, _, rfl, by constructor⟩

/-- The encoder, written by itself, and the decoder's map give each instruction the same code (R63, R67). -/
theorem encode_eq_cons_iff (i : Instr) (op : Byte) (operands : List Byte) :
    encode i = op :: operands ↔ (formOf op).Builds operands i := by
  constructor
  · intro h
    obtain ⟨op', operands', hcode, hbuilds⟩ := formOf_builds_encode i
    obtain ⟨rfl, rfl⟩ := List.cons.inj (hcode.symm.trans h)
    exact hbuilds
  · intro h
    rw [formOf_hasCodes op operands i h, opcode_formOf]

theorem encode_ne_nil (i : Instr) : encode i ≠ [] := by
  obtain ⟨op, operands, hcode, -⟩ := formOf_builds_encode i
  simp [hcode]

/-! ### Decoding inverts encoding -/

/-- The decoder answers an instruction exactly when the bytes start with its code. -/
theorem decode_eq_ok_iff (bs rest : List Byte) (i : Instr) : decode bs = .ok (i, rest) ↔ bs = encode i ++ rest := by
  cases bs with
  | nil => simp [decode, encode_ne_nil]
  | cons op bs =>
    simp only [decode_cons_eq_ok_iff, ← encode_eq_cons_iff, List.cons_eq_append_iff, encode_ne_nil, false_and, false_or,
      and_comm]

/-- Settles O1: the code followed by anything starts with the code. -/
theorem decodeOfEncode : Obligations.DecodeOfEncode := fun i rest =>
  (decode_eq_ok_iff (encode i ++ rest) rest i).mpr rfl

/-- Settles O2: the other direction of the same equivalence. -/
theorem encodeOfDecode : Obligations.EncodeOfDecode := fun bs rest i =>
  (decode_eq_ok_iff bs rest i).mp

/-! ### The mode table -/

/-- The mode table and the opcode map agree on the number of operand bytes (R64, R67). -/
theorem operandBytes_formOf : ∀ op : Byte, (formOf op).operandBytes = (modeOf op).operandBytes := by decide

/-- An opcode byte and bytes after it are a code exactly when there are as many as its mode asks for (R64, R72). -/
theorem exists_encode_eq_cons_iff (op : Byte) (operands : List Byte) :
    (∃ i, encode i = op :: operands) ↔ operands.length = (modeOf op).operandBytes := by
  simp only [encode_eq_cons_iff, Form.exists_builds_iff, operandBytes_formOf]

theorem Mode.operandBytes_le_two (m : Mode) : m.operandBytes ≤ 2 := by cases m <;> decide

/-- Settles O3: the mode's number of operand bytes, at most two, is taken from the front of what follows. -/
theorem decodingIsTotal : Obligations.DecodingIsTotal := by
  intro op b1 b2 rest
  have hle := (modeOf op).operandBytes_le_two
  generalize hn : (modeOf op).operandBytes = n at hle ⊢
  have htake : ((b1 :: b2 :: rest).take n).length = n := by
    simp only [List.length_take, List.length_cons]
    omega
  obtain ⟨i, hcode⟩ := (exists_encode_eq_cons_iff op ((b1 :: b2 :: rest).take n)).mpr (htake.trans hn.symm)
  have hlength : (encode i).length = 1 + n := by rw [hcode, List.length_cons, htake, Nat.add_comm]
  refine ⟨i, (b1 :: b2 :: rest).drop n, (decode_eq_ok_iff _ _ i).mpr ?_, by rw [hcode, List.head?_cons], hlength, ?_⟩
  · rw [hcode, List.cons_append, List.take_append_drop]
  · rw [hlength]
    simp only [List.length_drop, List.length_cons]
    omega

/-- The three checks together ask for an opcode byte and exactly the operand bytes of its mode. -/
theorem wellFormed_cons (op : Byte) (operands : List Byte) :
    wellFormed (op :: operands) = true ↔ operands.length = (modeOf op).operandBytes := by
  simp [wellFormed, hasOpcode, hasOperands, hasNothingMore]
  omega

/-- Settles O4: the mode table's count on one side, the instruction built from the operands on the other. -/
theorem wellFormedIsOneInstruction : Obligations.WellFormedIsOneInstruction := by
  intro bs
  cases bs with
  | nil => simp [wellFormed, hasOpcode, (encode_ne_nil _).symm]
  | cons op operands =>
    simp only [wellFormed_cons, ← exists_encode_eq_cons_iff, eq_comm (a := op :: operands)]

/-! ### Words of the encoding tables -/

/-- Settles O5: each word runs through the decoder. -/
theorem knownWordsDecode : Obligations.KnownWordsDecode := ⟨rfl, rfl, rfl, rfl, rfl, rfl, rfl, rfl⟩

end Sys2Proof

/-! The memory addressing modes (O9; spec/40_addressing_modes.md R79-R87): the addresses of page 0 and of an indexed
base as numbers with their wrap-around, and a pointer of page 0 as two bytes of RAM. -/

namespace Sys2Proof.Machine

/-! ### Addresses as numbers -/

theorem wordOf_toNat (hi lo : Byte) : (wordOf hi lo).toNat = 256 * hi.toNat + lo.toNat := by
  rw [wordOf, BitVec.toNat_append, ← Nat.shiftLeft_add_eq_or_of_lt lo.isLt, Nat.shiftLeft_eq, Nat.mul_comm]

/-- A zero-page address has the number of its byte: it lies in page 0 (R79). -/
theorem zeroPage_toNat (z : Byte) : (zeroPage z).toNat = z.toNat := by
  rw [zeroPage, wordOf_toNat, BitVec.toNat_ofNat, Nat.zero_mod, Nat.mul_zero, Nat.zero_add]

theorem zeroPage_eq_setWidth (z : Byte) : zeroPage z = z.setWidth 16 := by
  apply BitVec.eq_of_toNat_eq
  rw [zeroPage_toNat, BitVec.toNat_setWidth_of_le (by decide)]

/-- Page 0 lies in internal RAM (R45). -/
theorem zeroPage_lt (z : Byte) : (zeroPage z).toNat < 0x2000 := by
  rw [zeroPage_toNat]
  exact z.isLt.trans (by decide)

/-- A zero-page index wraps within page 0 (R80, R81). -/
theorem zeroPage_add_toNat (z index : Byte) : (zeroPage (z + index)).toNat = (z.toNat + index.toNat) % 256 := by
  rw [zeroPage_toNat, BitVec.toNat_add]

/-- An indexed base wraps at the end of the address space (R83, R84, R87). -/
theorem indexed_ea_toNat (base : Word) (index : Byte) :
    (indexed base index).ea.toNat = (base.toNat + index.toNat) % 65536 := by
  rw [indexed, BitVec.toNat_add, BitVec.toNat_setWidth_of_le (by decide)]

/-! ### Pointers in page 0 -/

/-- With a cartridge whose contents are listed, reading page 0 gives the RAM byte and changes nothing (R45, R46). -/
theorem memRead_zeroPage {s : State} (h : ∀ cs, s.cart ≠ .custom cs) (z : Byte) :
    memRead s (zeroPage z) = (ramByte s (z.setWidth 16), s) := by
  rw [memRead_plain s _ ⟨h, .inl (zeroPage_lt z)⟩, peek_ram h (zeroPage_lt z), zeroPage_eq_setWidth]

/-- A pointer in page 0 is two RAM bytes, and reading it changes nothing (R86, R87). -/
theorem readPointer_listed {s : State} (h : ∀ cs, s.cart ≠ .custom cs) (z : Byte) :
    readPointer s z = (wordOf (ramByte s ((z + 1).setWidth 16)) (ramByte s (z.setWidth 16)), s) := by
  simp only [readPointer, readPair, memRead_zeroPage h]

/-! ### The modes -/

/-- `(zp,X)` on a machine whose pointers are RAM bytes: the pointer is the address (R86). -/
theorem effective_izx_listed {s : State} (h : ∀ cs, s.cart ≠ .custom cs) (z : Byte) :
    effective s (.izx z) = (direct (wordOf (ramByte s ((z + s.cpu.x + 1).setWidth 16))
      (ramByte s ((z + s.cpu.x).setWidth 16))), s) := by
  simp only [effective, readPointer_listed h]

/-- `(zp),Y` on a machine whose pointers are RAM bytes: the pointer is the base (R87). -/
theorem effective_izy_listed {s : State} (h : ∀ cs, s.cart ≠ .custom cs) (z : Byte) :
    effective s (.izy z) = (indexed (wordOf (ramByte s ((z + 1).setWidth 16)) (ramByte s (z.setWidth 16)))
      s.cpu.y, s) := by
  simp only [effective, readPointer_listed h]

/-- A byte whose number is a sum's, modulo 256, is the sum of the bytes. -/
theorem eq_add_of_toNat {a b c : Byte} (h : a.toNat = (b.toNat + c.toNat) % 256) : a = b + c :=
  BitVec.eq_of_toNat_eq (h.trans (BitVec.toNat_add b c).symm)

/-- Settles O9: mode by mode; the indirect ones with the bytes of the pointer named by their wrapped addresses. -/
theorem addressingModes : Obligations.AddressingModes := by
  intro s z w
  refine ⟨⟨zeroPage_toNat z, rfl⟩, ⟨zeroPage_add_toNat z s.cpu.x, rfl⟩, ⟨zeroPage_add_toNat z s.cpu.y, rfl⟩,
    ⟨rfl, rfl⟩, ⟨indexed_ea_toNat w s.cpu.x, rfl, rfl⟩, ⟨indexed_ea_toNat w s.cpu.y, rfl, rfl⟩, ?_⟩
  intro hlisted p q
  constructor
  · intro hp hq
    obtain rfl : p = z + s.cpu.x := eq_add_of_toNat hp
    obtain rfl : q = z + s.cpu.x + 1 := eq_add_of_toNat hq
    rw [effectiveAddress, afterPointer, effective_izx_listed hlisted]
    exact ⟨wordOf_toNat _ _, rfl⟩
  · intro hp hq
    subst hp
    obtain rfl : q = p + 1 := eq_add_of_toNat hq
    rw [effectiveAddress, afterPointer, effective_izy_listed hlisted]
    exact ⟨wordOf_toNat _ _, indexed_ea_toNat _ _, rfl⟩

end Sys2Proof.Machine

/-! Loads, stores and register instructions (O10, O11, O12, O20; spec/41_load_store_transfer.md R89-R100,
spec/43_shift_rotate_incdec.md R120-R123, spec/46_undocumented.md R157, R158, R165). Everything that puts a byte into
registers and sets N and Z from it is one shape, `Loads`; its outcome is said once for an operand in memory and once
for a byte at hand. -/

namespace Sys2Proof.Machine

/-! ### Operations that load a byte into registers -/

/-- The CPU with the byte `value` of the operand `m` put into registers by `put`, and N and Z set from it. -/
def loadedCpu (value : Cpu → Byte → Byte) (put : Cpu → Byte → Cpu) (c : Cpu) (m : Byte) : Cpu :=
  { put c (value c m) with p := setNZ c.p (value c m) }

/-- `op` loads the byte `value` of its operand into the registers `put` writes, and does nothing else. -/
def Loads (op : State → Byte → State) (value : Cpu → Byte → Byte) (put : Cpu → Byte → Cpu) : Prop :=
  ∀ s m, op s m = s.setCpu (loadedCpu value put s.cpu m)

theorem loadA_loads : Loads loadA (fun _ m => m) (fun c v => { c with a := v }) := fun _ _ => rfl

theorem loadX_loads : Loads loadX (fun _ m => m) (fun c v => { c with x := v }) := fun _ _ => rfl

theorem loadY_loads : Loads loadY (fun _ m => m) (fun c v => { c with y := v }) := fun _ _ => rfl

theorem loadAX_loads : Loads loadAX (fun _ m => m) (fun c v => { c with a := v, x := v }) := fun _ _ => rfl

theorem loadAXSp_loads : Loads loadAXSp (fun c m => m &&& c.sp) (fun c v => { c with a := v, x := v, sp := v }) :=
  fun _ _ => rfl

section

variable {op : State → Byte → State} {value : Cpu → Byte → Byte} {put : Cpu → Byte → Cpu}

/-- Loading a byte at hand completes and changes only the CPU (R76, R78). -/
theorem Loads.finish_outcome (h : Loads op value put) (s : State) (m : Byte) (cycles : Nat) :
    ∃ t, finish (op s m) cycles = .next t ∧
      t.cpu = { put s.cpu (value s.cpu m) with p := t.cpu.p, budget := cycles } ∧
      FlagsFrom (value s.cpu m) [] s.cpu.p t.cpu.p ∧ RegisterFrame s t := by
  refine ⟨_, rfl, ?_⟩
  rw [h, setBudget_eq, setCpu_setCpu]
  exact ⟨rfl, flagsFrom_setNZ _ _, rfl⟩

/-- The table rows of a load complete, with N and Z from the byte loaded, and change no memory. -/
theorem Loads.rows (h : Loads op value put) {forms : List MemForm} (s : State)
    (hf : ∀ f ∈ forms, Encodes f ∧ exec f.instr s = execRead f.operand f.cycles f.page op s) :
    ∀ f ∈ forms, Encodes f ∧ ∃ t, exec f.instr s = .next t ∧
      t.cpu = { put s.cpu (value s.cpu (operandByte s f.operand)) with p := t.cpu.p, budget := formCycles s f } ∧
      FlagsFrom (value s.cpu (operandByte s f.operand)) [] s.cpu.p t.cpu.p ∧ ReadFrame s t f.operand := by
  intro f hmem
  obtain ⟨hcode, t, hexec, hcpu, hframe⟩ := reading_rows forms op (loadedCpu value put) h s hf f hmem
  have hp : t.cpu.p = setNZ s.cpu.p (value s.cpu (operandByte s f.operand)) := congrArg Cpu.p hcpu
  exact ⟨hcode, t, hexec, by rw [hp]; exact hcpu, hp ▸ flagsFrom_setNZ _ _, hframe⟩

end

/-! ### The table rows of the loads -/

theorem formsLDA_read (z : Byte) (w : Word) (s : State) : ∀ f ∈ formsLDA z w,
    Encodes f ∧ exec f.instr s = execRead f.operand f.cycles f.page loadA s := by
  intro f hf
  simp only [formsLDA, List.mem_cons, List.not_mem_nil, or_false] at hf
  rcases hf with rfl | rfl | rfl | rfl | rfl | rfl | rfl <;> exact ⟨rfl, rfl⟩

theorem formsLDX_read (z : Byte) (w : Word) (s : State) : ∀ f ∈ formsLDX z w,
    Encodes f ∧ exec f.instr s = execRead f.operand f.cycles f.page loadX s := by
  intro f hf
  simp only [formsLDX, List.mem_cons, List.not_mem_nil, or_false] at hf
  rcases hf with rfl | rfl | rfl | rfl <;> exact ⟨rfl, rfl⟩

theorem formsLDY_read (z : Byte) (w : Word) (s : State) : ∀ f ∈ formsLDY z w,
    Encodes f ∧ exec f.instr s = execRead f.operand f.cycles f.page loadY s := by
  intro f hf
  simp only [formsLDY, List.mem_cons, List.not_mem_nil, or_false] at hf
  rcases hf with rfl | rfl | rfl | rfl <;> exact ⟨rfl, rfl⟩

theorem formsLAX_read (z : Byte) (w : Word) (s : State) : ∀ f ∈ formsLAX z w,
    Encodes f ∧ exec f.instr s = execRead f.operand f.cycles f.page loadAX s := by
  intro f hf
  simp only [formsLAX, List.mem_cons, List.not_mem_nil, or_false] at hf
  rcases hf with rfl | rfl | rfl | rfl | rfl | rfl <;> exact ⟨rfl, rfl⟩

theorem formsLAR_read (w : Word) (s : State) : ∀ f ∈ formsLAR w,
    Encodes f ∧ exec f.instr s = execRead f.operand f.cycles f.page loadAXSp s := by
  intro f hf
  obtain rfl := List.mem_singleton.mp hf
  exact ⟨rfl, rfl⟩

/-- Settles O10: the seven memory rows and the immediate form are loads into A. -/
theorem ldaLoadsA : Obligations.LdaLoadsA :=
  ⟨fun z w s => loadA_loads.rows s (formsLDA_read z w s), fun v s => ⟨rfl, loadA_loads.finish_outcome s v 2⟩⟩

/-- Settles O11: each instruction is a load into its own registers; LAR's value is the operand ANDed with SP. -/
theorem indexAndDoubleLoads : Obligations.IndexAndDoubleLoads := by
  refine ⟨fun z w s => loadX_loads.rows s (formsLDX_read z w s), fun z w s => loadY_loads.rows s (formsLDY_read z w s),
    fun v s => ⟨rfl, loadX_loads.finish_outcome s v 2⟩, fun v s => ⟨rfl, loadY_loads.finish_outcome s v 2⟩,
    fun z w s => loadAX_loads.rows s (formsLAX_read z w s), ?_⟩
  intro w s f hf
  obtain ⟨hcode, t, hexec, hcpu, hflags, hframe⟩ := loadAXSp_loads.rows s (formsLAR_read w s) f hf
  exact ⟨hcode, t, _, hexec, rfl, hcpu, hflags, hframe⟩

/-! ### The table rows of the stores -/

theorem formsSTA_store (z : Byte) (w : Word) (s : State) : ∀ f ∈ formsSTA z w,
    Encodes f ∧ exec f.instr s = execStore f.operand f.cycles Cpu.a s := by
  intro f hf
  simp only [formsSTA, List.mem_cons, List.not_mem_nil, or_false] at hf
  rcases hf with rfl | rfl | rfl | rfl | rfl | rfl | rfl <;> exact ⟨rfl, rfl⟩

theorem formsSTX_store (z : Byte) (w : Word) (s : State) : ∀ f ∈ formsSTX z w,
    Encodes f ∧ exec f.instr s = execStore f.operand f.cycles Cpu.x s := by
  intro f hf
  simp only [formsSTX, List.mem_cons, List.not_mem_nil, or_false] at hf
  rcases hf with rfl | rfl | rfl <;> exact ⟨rfl, rfl⟩

theorem formsSTY_store (z : Byte) (w : Word) (s : State) : ∀ f ∈ formsSTY z w,
    Encodes f ∧ exec f.instr s = execStore f.operand f.cycles Cpu.y s := by
  intro f hf
  simp only [formsSTY, List.mem_cons, List.not_mem_nil, or_false] at hf
  rcases hf with rfl | rfl | rfl <;> exact ⟨rfl, rfl⟩

theorem formsSAX_store (z : Byte) (w : Word) (s : State) : ∀ f ∈ formsSAX z w,
    Encodes f ∧ exec f.instr s = execStore f.operand f.cycles (fun c => c.a &&& c.x) s := by
  intro f hf
  simp only [formsSAX, List.mem_cons, List.not_mem_nil, or_false] at hf
  rcases hf with rfl | rfl | rfl | rfl <;> exact ⟨rfl, rfl⟩

/-- Settles O12: every row is a store of its register value, and `storing_rows` says what a store writes. -/
theorem storesWriteOneByte : Obligations.StoresWriteOneByte := fun z w s =>
  ⟨storing_rows _ _ s (formsSTA_store z w s), storing_rows _ _ s (formsSTX_store z w s),
    storing_rows _ _ s (formsSTY_store z w s), storing_rows _ _ s (formsSAX_store z w s)⟩

/-! ### The register instructions -/

/-- `v - 1` is `v + 255` modulo 256 (R122, R123). -/
theorem toNat_sub_one (v : Byte) : (v - 1).toNat = (v.toNat + 255) % 256 := by
  rw [BitVec.toNat_sub, Nat.add_comm]
  rfl

/-- Loading X with a byte whose number is known (R120, R122). -/
theorem loadX_finish_toNat (s : State) {v : Byte} {n : Nat} (hv : v.toNat = n) :
    ∃ t, finish (loadX s v) 2 = .next t ∧ t.cpu = { s.cpu with x := t.cpu.x, p := t.cpu.p, budget := 2 } ∧
      t.cpu.x.toNat = n ∧ FlagsFrom t.cpu.x [] s.cpu.p t.cpu.p ∧ RegisterFrame s t := by
  obtain ⟨t, hnext, hcpu, hflags, hframe⟩ := loadX_loads.finish_outcome s v 2
  have hx : t.cpu.x = v := congrArg Cpu.x hcpu
  exact ⟨t, hnext, by rw [hx]; exact hcpu, by rw [hx, hv], by rwa [hx], hframe⟩

/-- Loading Y with a byte whose number is known (R121, R123). -/
theorem loadY_finish_toNat (s : State) {v : Byte} {n : Nat} (hv : v.toNat = n) :
    ∃ t, finish (loadY s v) 2 = .next t ∧ t.cpu = { s.cpu with y := t.cpu.y, p := t.cpu.p, budget := 2 } ∧
      t.cpu.y.toNat = n ∧ FlagsFrom t.cpu.y [] s.cpu.p t.cpu.p ∧ RegisterFrame s t := by
  obtain ⟨t, hnext, hcpu, hflags, hframe⟩ := loadY_loads.finish_outcome s v 2
  have hy : t.cpu.y = v := congrArg Cpu.y hcpu
  exact ⟨t, hnext, by rw [hy]; exact hcpu, by rw [hy, hv], by rwa [hy], hframe⟩

/-- TXS writes SP and no flag (R100). -/
theorem execTxs_completes (s : State) :
    ∃ t, execTxs s = .next t ∧ t.cpu = { s.cpu with sp := s.cpu.x, budget := 2 } ∧ RegisterFrame s t :=
  ⟨_, rfl, rfl, rfl⟩

/-- Settles O20: all but TXS are loads of a byte at hand, the increments and decrements of a sum modulo 256. -/
theorem registerInstructions : Obligations.RegisterInstructions := fun s =>
  ⟨loadX_loads.finish_outcome s s.cpu.a 2, loadY_loads.finish_outcome s s.cpu.a 2,
    loadA_loads.finish_outcome s s.cpu.x 2, loadA_loads.finish_outcome s s.cpu.y 2,
    loadX_loads.finish_outcome s s.cpu.sp 2, execTxs_completes s,
    loadX_finish_toNat s (BitVec.toNat_add s.cpu.x 1), loadY_finish_toNat s (BitVec.toNat_add s.cpu.y 1),
    loadX_finish_toNat s (toNat_sub_one s.cpu.x), loadY_finish_toNat s (toNat_sub_one s.cpu.y)⟩

end Sys2Proof.Machine

/-! Arithmetic, logic, compare and bit test (O13 to O17, O37; spec/42_arithmetic_logic.md R101-R113). An instruction of
this family writes P, and A too where it is no comparison or test: `SetsAP` and `SetsP` say which relation holds between
what it reads and what it writes, and each carries that relation to every row of a table and to the immediate form. AND,
ORA and EOR are loads. The last part is the indifference to D, a commuting diagram for each shape of instruction. -/

namespace Sys2Proof.Machine

/-! ### Operations that write A and P -/

/-- `op` writes A and P alone, and `R` holds of the old A, the operand byte, the old P, the new A and the new P. -/
def SetsAP (R : Byte → Byte → Byte → Byte → Byte → Prop) (op : State → Byte → State) : Prop :=
  ∃ result flags : Cpu → Byte → Byte, (∀ c m, R c.a m c.p (result c m) (flags c m)) ∧
    ∀ s m, op s m = s.setCpu { s.cpu with a := result s.cpu m, p := flags s.cpu m }

section

variable {R : Byte → Byte → Byte → Byte → Byte → Prop} {op : State → Byte → State}

/-- The table rows of an operation on A and P complete, with A and P as its relation says, and change no memory. -/
theorem SetsAP.rows (h : SetsAP R op) {forms : List MemForm} (s : State)
    (hf : ∀ f ∈ forms, Encodes f ∧ exec f.instr s = execRead f.operand f.cycles f.page op s) :
    ∀ f ∈ forms, Encodes f ∧ ∃ t, exec f.instr s = .next t ∧
      t.cpu = { s.cpu with a := t.cpu.a, p := t.cpu.p, budget := formCycles s f } ∧
      R s.cpu.a (operandByte s f.operand) s.cpu.p t.cpu.a t.cpu.p ∧ ReadFrame s t f.operand := by
  obtain ⟨result, flags, hR, hop⟩ := h
  intro f hmem
  obtain ⟨hcode, t, hexec, hcpu, hframe⟩ := reading_rows forms op
    (fun c m => { c with a := result c m, p := flags c m }) hop s hf f hmem
  refine ⟨hcode, t, hexec, ?_, ?_, hframe⟩
  · rw [hcpu]
  · rw [hcpu]
    exact hR _ _

/-- On a byte at hand it completes and changes only the CPU (R78). -/
theorem SetsAP.finish_outcome (h : SetsAP R op) (s : State) (m : Byte) (cycles : Nat) :
    ∃ t, finish (op s m) cycles = .next t ∧
      t.cpu = { s.cpu with a := t.cpu.a, p := t.cpu.p, budget := cycles } ∧
      R s.cpu.a m s.cpu.p t.cpu.a t.cpu.p ∧ RegisterFrame s t := by
  obtain ⟨result, flags, hR, hop⟩ := h
  refine ⟨_, rfl, ?_⟩
  rw [hop, setBudget_eq, setCpu_setCpu]
  exact ⟨rfl, hR _ _, rfl⟩

end

/-! ### Operations that write P alone -/

/-- `op` writes P alone, and `R` holds of the CPU before, the operand byte and the new P. -/
def SetsP (R : Cpu → Byte → Byte → Prop) (op : State → Byte → State) : Prop :=
  ∃ flags : Cpu → Byte → Byte, (∀ c m, R c m (flags c m)) ∧ ∀ s m, op s m = s.setCpu { s.cpu with p := flags s.cpu m }

section

variable {R : Cpu → Byte → Byte → Prop} {op : State → Byte → State}

/-- The table rows of an operation on P complete, with P as its relation says, and change no memory. -/
theorem SetsP.rows (h : SetsP R op) {forms : List MemForm} (s : State)
    (hf : ∀ f ∈ forms, Encodes f ∧ exec f.instr s = execRead f.operand f.cycles f.page op s) :
    ∀ f ∈ forms, Encodes f ∧ ∃ t, exec f.instr s = .next t ∧
      t.cpu = { s.cpu with p := t.cpu.p, budget := formCycles s f } ∧
      R s.cpu (operandByte s f.operand) t.cpu.p ∧ ReadFrame s t f.operand := by
  obtain ⟨flags, hR, hop⟩ := h
  intro f hmem
  obtain ⟨hcode, t, hexec, hcpu, hframe⟩ := reading_rows forms op
    (fun c m => { c with p := flags c m }) hop s hf f hmem
  refine ⟨hcode, t, hexec, ?_, ?_, hframe⟩
  · rw [hcpu]
  · rw [hcpu]
    exact hR _ _

/-- On a byte at hand it completes and changes only the CPU (R78). -/
theorem SetsP.finish_outcome (h : SetsP R op) (s : State) (m : Byte) (cycles : Nat) :
    ∃ t, finish (op s m) cycles = .next t ∧ t.cpu = { s.cpu with p := t.cpu.p, budget := cycles } ∧
      R s.cpu m t.cpu.p ∧ RegisterFrame s t := by
  obtain ⟨flags, hR, hop⟩ := h
  refine ⟨_, rfl, ?_⟩
  rw [hop, setBudget_eq, setCpu_setCpu]
  exact ⟨rfl, hR _ _, rfl⟩

end

/-! ### The adder -/

theorem adcA_setsAP : SetsAP AddsTo adcA :=
  ⟨_, _, fun c m => addFlags_addsTo c.a m c.p, fun _ _ => rfl⟩

/-- SBC is the adder on the complement of the operand (R106). -/
theorem sbcA_setsAP : SetsAP SubtractsTo sbcA :=
  ⟨_, _, fun c m => (addFlags_addsTo c.a (m ^^^ 0xFF#8) c.p).subtractsTo, fun _ _ => rfl⟩

theorem formsADC_read (z : Byte) (w : Word) (s : State) : ∀ f ∈ formsADC z w,
    Encodes f ∧ exec f.instr s = execRead f.operand f.cycles f.page adcA s := by
  intro f hf
  fin_cases hf <;> exact ⟨rfl, rfl⟩

theorem formsSBC_read (z : Byte) (w : Word) (s : State) : ∀ f ∈ formsSBC z w,
    Encodes f ∧ exec f.instr s = execRead f.operand f.cycles f.page sbcA s := by
  intro f hf
  fin_cases hf <;> exact ⟨rfl, rfl⟩

/-- Settles O13: the seven memory rows and the immediate form set A and P as the adder does. -/
theorem adcAddsWithCarry : Obligations.AdcAddsWithCarry :=
  ⟨fun z w s => adcA_setsAP.rows s (formsADC_read z w s), fun v s => ⟨rfl, adcA_setsAP.finish_outcome s v 2⟩⟩

/-- Settles O14: as O13, with the adder on the complement; the two immediate opcodes have one meaning. -/
theorem sbcSubtractsWithBorrow : Obligations.SbcSubtractsWithBorrow :=
  ⟨fun z w s => sbcA_setsAP.rows s (formsSBC_read z w s),
    fun v s => ⟨rfl, rfl, rfl, sbcA_setsAP.finish_outcome s v 2⟩⟩

/-! ### AND, ORA and EOR -/

/-- An operation that loads A with a combination of A and the operand, on its table rows and its immediate form. -/
theorem Loads.combinesA {opA : State → Byte → State} {combine : Byte → Byte → Byte} {forms : List MemForm}
    {imm : Byte → Instr} {code : Byte} {s : State}
    (h : Loads opA (fun c m => combine c.a m) (fun c v => { c with a := v }))
    (hf : ∀ f ∈ forms, Encodes f ∧ exec f.instr s = execRead f.operand f.cycles f.page opA s)
    (himm : ∀ v, encode (imm v) = [code, v] ∧ exec (imm v) s = finish (opA s v) 2) :
    CombinesA combine forms imm code s := by
  constructor
  · intro f hmem
    obtain ⟨hcode, t, hexec, hcpu, hflags, hframe⟩ := h.rows s hf f hmem
    exact ⟨hcode, t, _, hexec, rfl, hcpu, hflags, hframe⟩
  · intro v
    obtain ⟨hcode, hexec⟩ := himm v
    obtain ⟨t, hnext, hcpu, hflags, hframe⟩ := h.finish_outcome s v 2
    exact ⟨hcode, t, _, hexec.trans hnext, rfl, hcpu, hflags, hframe⟩

theorem andA_loads : Loads andA (fun c m => c.a &&& m) (fun c v => { c with a := v }) := fun _ _ => rfl

theorem oraA_loads : Loads oraA (fun c m => c.a ||| m) (fun c v => { c with a := v }) := fun _ _ => rfl

theorem eorA_loads : Loads eorA (fun c m => c.a ^^^ m) (fun c v => { c with a := v }) := fun _ _ => rfl

theorem formsAND_read (z : Byte) (w : Word) (s : State) : ∀ f ∈ formsAND z w,
    Encodes f ∧ exec f.instr s = execRead f.operand f.cycles f.page andA s := by
  intro f hf
  fin_cases hf <;> exact ⟨rfl, rfl⟩

theorem formsORA_read (z : Byte) (w : Word) (s : State) : ∀ f ∈ formsORA z w,
    Encodes f ∧ exec f.instr s = execRead f.operand f.cycles f.page oraA s := by
  intro f hf
  fin_cases hf <;> exact ⟨rfl, rfl⟩

theorem formsEOR_read (z : Byte) (w : Word) (s : State) : ∀ f ∈ formsEOR z w,
    Encodes f ∧ exec f.instr s = execRead f.operand f.cycles f.page eorA s := by
  intro f hf
  fin_cases hf <;> exact ⟨rfl, rfl⟩

/-- Settles O15: the three are loads of A with the combination. -/
theorem logicCombinesA : Obligations.LogicCombinesA := fun z w s =>
  ⟨andA_loads.combinesA (formsAND_read z w s) fun _ => ⟨rfl, rfl⟩,
    oraA_loads.combinesA (formsORA_read z w s) fun _ => ⟨rfl, rfl⟩,
    eorA_loads.combinesA (formsEOR_read z w s) fun _ => ⟨rfl, rfl⟩⟩

/-! ### Comparisons -/

/-- An operation that sets P as a comparison of the register `reg` does, on its table rows and its immediate form. -/
theorem SetsP.comparesRegister {reg : Cpu → Byte} {op : State → Byte → State} {forms : List MemForm}
    {imm : Byte → Instr} {code : Byte} {s : State} (h : SetsP (fun c m q => ComparesTo (reg c) m c.p q) op)
    (hf : ∀ f ∈ forms, Encodes f ∧ exec f.instr s = execRead f.operand f.cycles f.page op s)
    (himm : ∀ v, encode (imm v) = [code, v] ∧ exec (imm v) s = finish (op s v) 2) :
    ComparesRegister (reg s.cpu) forms imm code s := by
  refine ⟨h.rows s hf, fun v => ?_⟩
  obtain ⟨hcode, hexec⟩ := himm v
  rw [hexec]
  exact ⟨hcode, h.finish_outcome s v 2⟩

theorem compareA_setsP : SetsP (fun c m q => ComparesTo c.a m c.p q) compareA :=
  ⟨_, fun c m => compareFlags_comparesTo c.a m c.p, fun _ _ => rfl⟩

theorem compareX_setsP : SetsP (fun c m q => ComparesTo c.x m c.p q) compareX :=
  ⟨_, fun c m => compareFlags_comparesTo c.x m c.p, fun _ _ => rfl⟩

theorem compareY_setsP : SetsP (fun c m q => ComparesTo c.y m c.p q) compareY :=
  ⟨_, fun c m => compareFlags_comparesTo c.y m c.p, fun _ _ => rfl⟩

theorem formsCMP_read (z : Byte) (w : Word) (s : State) : ∀ f ∈ formsCMP z w,
    Encodes f ∧ exec f.instr s = execRead f.operand f.cycles f.page compareA s := by
  intro f hf
  fin_cases hf <;> exact ⟨rfl, rfl⟩

theorem formsCPX_read (z : Byte) (w : Word) (s : State) : ∀ f ∈ formsCPX z w,
    Encodes f ∧ exec f.instr s = execRead f.operand f.cycles f.page compareX s := by
  intro f hf
  fin_cases hf <;> exact ⟨rfl, rfl⟩

theorem formsCPY_read (z : Byte) (w : Word) (s : State) : ∀ f ∈ formsCPY z w,
    Encodes f ∧ exec f.instr s = execRead f.operand f.cycles f.page compareY s := by
  intro f hf
  fin_cases hf <;> exact ⟨rfl, rfl⟩

/-- Settles O16: the three set P by the comparator on their own register. -/
theorem comparesSetFlagsOnly : Obligations.ComparesSetFlagsOnly := fun z w s =>
  ⟨compareA_setsP.comparesRegister (formsCMP_read z w s) fun _ => ⟨rfl, rfl⟩,
    compareX_setsP.comparesRegister (formsCPX_read z w s) fun _ => ⟨rfl, rfl⟩,
    compareY_setsP.comparesRegister (formsCPY_read z w s) fun _ => ⟨rfl, rfl⟩⟩

/-! ### BIT -/

/-- `q` is the status after BIT on the operand byte `m` (R113). -/
def TestsBits (c : Cpu) (m q : Byte) : Prop :=
  getFlag q .z = decide (c.a &&& m = 0) ∧ getFlag q .n = m.getLsbD 7 ∧ getFlag q .v = m.getLsbD 6 ∧
  FlagsKept [.z, .n, .v] c.p q

theorem bitFlags_testsBits (c : Cpu) (m : Byte) : TestsBits c m (bitFlags c.p c.a m) := by
  refine ⟨?_, ?_, ?_, fun f hf => ?_⟩
  · rw [getFlag_bitFlags]
    rfl
  · rw [getFlag_bitFlags]
    rfl
  · rw [getFlag_bitFlags]
    rfl
  · simp only [List.mem_cons, List.not_mem_nil, or_false, not_or] at hf
    obtain ⟨hz, hn, hv⟩ := hf
    simp only [getFlag_bitFlags, hz, hn, hv, if_false]

theorem testBits_setsP : SetsP TestsBits testBits :=
  ⟨_, bitFlags_testsBits, fun _ _ => rfl⟩

theorem formsBIT_read (z : Byte) (w : Word) (s : State) : ∀ f ∈ formsBIT z w,
    Encodes f ∧ exec f.instr s = execRead f.operand f.cycles f.page testBits s := by
  intro f hf
  fin_cases hf <;> exact ⟨rfl, rfl⟩

/-- Settles O17: both rows set P as BIT does. -/
theorem bitTestsBits : Obligations.BitTestsBits := by
  intro z w s f hf
  obtain ⟨hcode, t, hexec, hcpu, ⟨hz, hn, hv, hkept⟩, hframe⟩ := testBits_setsP.rows s (formsBIT_read z w s) f hf
  exact ⟨hcode, t, hexec, hcpu, hz, hn, hv, hkept, hframe⟩

/-! ### The decimal flag: the flag computations -/

/-- D can be written before or after any other flag. -/
theorem setFlag_setFlag_d (p : Byte) {f : Flag} (v d : Bool) (h : f ≠ .d) :
    setFlag (setFlag p .d d) f v = setFlag (setFlag p f v) .d d := by
  apply eq_of_getFlag
  intro g
  simp only [getFlag_setFlag]
  by_cases hg : g = f
  · simp only [hg, h, if_true, if_false]
  · simp only [hg, if_false]

theorem getFlag_c_setFlag_d (p : Byte) (d : Bool) : getFlag (setFlag p .d d) .c = getFlag p .c :=
  getFlag_setFlag_other p d (by decide)

theorem setNZ_setFlag_d (p v : Byte) (d : Bool) : setNZ (setFlag p .d d) v = setFlag (setNZ p v) .d d := by
  rw [setNZ, setFlag_setFlag_d _ _ _ (by decide), setFlag_setFlag_d _ _ _ (by decide), setNZ]

/-- The adder's flags (R102, R103). -/
theorem addFlags_setFlag_d (p a m : Byte) (d : Bool) :
    addFlags (setFlag p .d d) a m = setFlag (addFlags p a m) .d d := by
  simp only [addFlags, getFlag_c_setFlag_d]
  rw [setFlag_setFlag_d _ _ _ (by decide), setFlag_setFlag_d _ _ _ (by decide), setNZ_setFlag_d]

theorem arrResult_setFlag_d (p a m : Byte) (d : Bool) : arrResult (setFlag p .d d) a m = arrResult p a m := by
  rw [arrResult, getFlag_c_setFlag_d, arrResult]

/-- ARR's flags (R161). -/
theorem arrFlags_setFlag_d (p a m : Byte) (d : Bool) :
    arrFlags (setFlag p .d d) a m = setFlag (arrFlags p a m) .d d := by
  simp only [arrFlags, arrResult_setFlag_d]
  rw [setNZ_setFlag_d, setFlag_setFlag_d _ _ _ (by decide), setFlag_setFlag_d _ _ _ (by decide)]

/-! ### The decimal flag: the machine -/

/-- The machine with D written. -/
def State.withD (s : State) (d : Bool) : State := s.setP (setFlag s.cpu.p .d d)

/-- Running on the machine with D written gives the outcome of running on the machine as it is, with D written. -/
def IgnoresD (run : State → Host.Outcome State Fault Refusal) : Prop :=
  ∀ s d, run (s.withD d) = thenNext (run s) (·.withD d)

theorem memRead_withD (s : State) (d : Bool) (a : Word) :
    memRead (s.withD d) a = ((memRead s a).1, (memRead s a).2.withD d) := by
  simp only [State.withD, setP_eq, memRead_setCpu, memRead_cpu]

theorem memWrite_withD (s : State) (d : Bool) (a : Word) (v : Byte) :
    memWrite (s.withD d) a v = (memWrite s a v).withD d := by
  simp only [State.withD, setP_eq, memWrite_setCpu, memWrite_cpu]

/-- The addressing modes look at X and Y alone of the CPU (R75). -/
theorem effective_withD (s : State) (d : Bool) (o : MemOperand) :
    effective (s.withD d) o = ((effective s o).1, (effective s o).2.withD d) := by
  simp only [State.withD, setP_eq, effective_setCpu s { s.cpu with p := setFlag s.cpu.p .d d } o rfl rfl, effective_cpu]

/-- `op` does the same on a machine with D written. -/
def OpIgnoresD (op : State → Byte → State) : Prop := ∀ s m d, op (s.withD d) m = (op s m).withD d

theorem adcA_ignoresD : OpIgnoresD adcA := by
  intro s m d
  simp only [adcA, State.withD, State.setP_cpu_a, State.setP_cpu_p, getFlag_c_setFlag_d, addFlags_setFlag_d]
  rfl

theorem sbcA_ignoresD : OpIgnoresD sbcA := fun s m d => adcA_ignoresD s (m ^^^ 0xFF#8) d

theorem arrA_ignoresD : OpIgnoresD arrA := by
  intro s m d
  simp only [arrA, State.withD, State.setP_cpu_a, State.setP_cpu_p, arrResult_setFlag_d, arrFlags_setFlag_d]
  rfl

/-- A change `modify` of a byte and P does the same on a P with D written. -/
def ModifyIgnoresD (modify : Byte → Byte → Byte × Byte) : Prop :=
  ∀ v p d, modify v (setFlag p .d d) = ((modify v p).1, setFlag (modify v p).2 .d d)

theorem rorOp_ignoresD : ModifyIgnoresD rorOp := by
  intro v p d
  rw [rorOp, getFlag_c_setFlag_d, setFlag_setFlag_d _ _ _ (by decide), rorOp]

theorem incOp_ignoresD : ModifyIgnoresD incOp := fun _ _ _ => rfl

/-! ### The decimal flag: the shapes of instruction -/

section

variable {op : State → Byte → State} {modify : Byte → Byte → Byte × Byte}

theorem finish_ignoresD (hop : OpIgnoresD op) (m : Byte) (cycles : Nat) :
    IgnoresD (fun s => finish (op s m) cycles) := by
  intro s d
  simp only [hop s m d]
  rfl

theorem execRead_ignoresD (hop : OpIgnoresD op) (o : MemOperand) (base : Nat) (page : Bool) :
    IgnoresD (execRead o base page op) := by
  intro s d
  simp only [execRead, effective_withD, memRead_withD, hop _ _ d]
  rfl

theorem execModify_ignoresD (hmodify : ModifyIgnoresD modify) (hop : OpIgnoresD op) (o : MemOperand) (base : Nat) :
    IgnoresD (execModify o base modify op) := by
  intro s d
  have hsetP : ∀ (u : State) (q : Byte), (u.withD d).setP (setFlag q .d d) = (u.setP q).withD d := fun _ _ => rfl
  have hp : ∀ u : State, (u.withD d).cpu.p = setFlag u.cpu.p .d d := fun _ => rfl
  simp only [execModify, effective_withD, memRead_withD, hp, hmodify _ _ d, memWrite_withD, hsetP, hop _ _ d]
  rfl

end

theorem formsRRA_modify (z : Byte) (w : Word) (s : State) : ∀ f ∈ formsRRA z w,
    Encodes f ∧ exec f.instr s = execModify f.operand f.cycles rorOp adcA s := by
  intro f hf
  fin_cases hf <;> exact ⟨rfl, rfl⟩

theorem formsISC_modify (z : Byte) (w : Word) (s : State) : ∀ f ∈ formsISC z w,
    Encodes f ∧ exec f.instr s = execModify f.operand f.cycles incOp sbcA s := by
  intro f hf
  fin_cases hf <;> exact ⟨rfl, rfl⟩

/-- What agrees with a run that ignores D ignores it. -/
theorem IgnoresD.congr {run run' : State → Host.Outcome State Fault Refusal} (h : IgnoresD run')
    (e : ∀ s, run s = run' s) : IgnoresD run := by
  intro s d
  rw [e, e, h]

/-- Every memory form of the adder's instructions ignores D (R103). -/
theorem memForm_ignoresD {z : Byte} {w : Word} {f : MemForm}
    (hf : f ∈ formsADC z w ++ formsSBC z w ++ formsRRA z w ++ formsISC z w) : IgnoresD (exec f.instr) := by
  simp only [List.mem_append] at hf
  rcases hf with ((hadc | hsbc) | hrra) | hisc
  · exact (execRead_ignoresD adcA_ignoresD _ _ _).congr fun s => (formsADC_read z w s f hadc).2
  · exact (execRead_ignoresD sbcA_ignoresD _ _ _).congr fun s => (formsSBC_read z w s f hsbc).2
  · exact (execModify_ignoresD rorOp_ignoresD adcA_ignoresD _ _).congr fun s => (formsRRA_modify z w s f hrra).2
  · exact (execModify_ignoresD incOp_ignoresD sbcA_ignoresD _ _).congr fun s => (formsISC_modify z w s f hisc).2

/-- The immediate forms of the adder's instructions and ARR ignore D (R103). -/
theorem immediate_ignoresD {z : Byte} {i : Instr}
    (hi : i ∈ [Instr.adcImm z, Instr.sbcImm z, Instr.sbcImmEB z, Instr.arrImm z]) : IgnoresD (exec i) := by
  simp only [List.mem_cons, List.not_mem_nil, or_false] at hi
  rcases hi with rfl | rfl | rfl | rfl
  · exact finish_ignoresD adcA_ignoresD z 2
  · exact finish_ignoresD sbcA_ignoresD z 2
  · exact finish_ignoresD sbcA_ignoresD z 2
  · exact finish_ignoresD arrA_ignoresD z 2

/-- Settles O37: every form ignores D, by its shape and its operation on the CPU. -/
theorem decimalFlagIsIgnored : Obligations.DecimalFlagIsIgnored := by
  intro z w d s t i hi hexec
  have hignores : IgnoresD (exec i) := by
    rcases hi with hmem | himm
    · obtain ⟨f, hf, rfl⟩ := List.mem_map.mp hmem
      exact memForm_ignoresD hf
    · exact immediate_ignoresD himm
  calc exec i (s.withD d) = thenNext (exec i s) (·.withD d) := hignores s d
    _ = .next (t.withD d) := by rw [hexec]; rfl

end Sys2Proof.Machine

/-! Shifts, rotates, increments and decrements (O18, O19; spec/43_shift_rotate_incdec.md R114-R119). A plain
read-modify-write ends with SetNZ of the byte it wrote: `plainModify_rows` says so once for every table row. `Shifts`
and `Increments` say what the change of the byte and of P is as arithmetic, and each carries that to the rows of a
table. -/

namespace Sys2Proof.Machine

/-! ### Plain read-modify-writes -/

/-- The table rows of a read-modify-write that ends with SetNZ complete, write the changed byte where it was read, and
change of the CPU the status and the budget alone (R75, R114-R119). -/
theorem plainModify_rows {modify : Byte → Byte → Byte × Byte} {forms : List MemForm} (s : State)
    (hf : ∀ f ∈ forms, Encodes f ∧ exec f.instr s = execModify f.operand f.cycles modify flagsOfByte s) :
    ∀ f ∈ forms, Encodes f ∧ ∃ t, exec f.instr s = .next t ∧
      t.cpu = { s.cpu with p := t.cpu.p, budget := f.cycles } ∧
      t.cpu.p = setNZ (modify (operandByte s f.operand) s.cpu.p).2 (modify (operandByte s f.operand) s.cpu.p).1 ∧
      WriteFrame s (afterOperand s f.operand) t (effectiveAddress s f.operand)
        (modify (operandByte s f.operand) s.cpu.p).1 := by
  intro f hmem
  obtain ⟨hcode, t, hexec, hcpu, hframe⟩ := modifying_rows forms modify flagsOfByte
    (fun c r => { c with p := setNZ c.p r }) updateNZ_eq s hf f hmem
  have hp := congrArg Cpu.p hcpu
  exact ⟨hcode, t, hexec, by rw [hp]; exact hcpu, hp, hframe⟩

/-! ### Shifts and rotates -/

/-- `modify` moves the byte to `shifted` of it and the carry, as numbers, and its bit `out` to C (R114-R117). -/
def Shifts (modify : Byte → Byte → Byte × Byte) (shifted : Nat → Nat → Nat) (out : Nat) : Prop :=
  ∀ v p, (modify v p).1.toNat = shifted v.toNat (getFlag p .c).toNat ∧
    (modify v p).2 = setFlag p .c (v.getLsbD out)

theorem aslOp_shifts : Shifts aslOp (fun v _ => 2 * v % 256) 7 := aslOp_eq

theorem lsrOp_shifts : Shifts lsrOp (fun v _ => v / 2) 0 := lsrOp_eq

theorem rolOp_shifts : Shifts rolOp (fun v c => (2 * v + c) % 256) 7 := rolOp_eq

theorem rorOp_shifts : Shifts rorOp (fun v c => v / 2 + 128 * c) 0 := rorOp_eq

/-- SetNZ after a write of C keeps the C written. -/
theorem getFlag_c_setNZ_setFlag (p r : Byte) (b : Bool) : getFlag (setNZ (setFlag p .c b) r) .c = b := by
  rw [getFlag_setNZ, if_neg (by decide), if_neg (by decide), getFlag_setFlag_same]

section

variable {modify : Byte → Byte → Byte × Byte} {shifted : Nat → Nat → Nat} {out : Nat}

/-- A shift's flags: N and Z from the result, C the bit shifted out, the others kept (R114-R117). -/
theorem Shifts.flags (h : Shifts modify shifted out) (v p : Byte) :
    FlagsFrom (modify v p).1 [.c] p (setNZ (modify v p).2 (modify v p).1) ∧
    getFlag (setNZ (modify v p).2 (modify v p).1) .c = v.getLsbD out := by
  obtain ⟨-, hp⟩ := h v p
  rw [hp]
  exact ⟨(flagsFrom_setNZ _ _).after_setFlag, getFlag_c_setNZ_setFlag _ _ _⟩

/-- The table rows of a shift of memory. -/
theorem Shifts.shiftsMemory (h : Shifts modify shifted out) {forms : List MemForm} {s : State}
    (hf : ∀ f ∈ forms, Encodes f ∧ exec f.instr s = execModify f.operand f.cycles modify flagsOfByte s) :
    ShiftsMemory shifted out forms s := by
  intro f hmem
  obtain ⟨hcode, t, hexec, hcpu, hp, hframe⟩ := plainModify_rows s hf f hmem
  obtain ⟨hresult, -⟩ := h (operandByte s f.operand) s.cpu.p
  obtain ⟨hflags, hcarry⟩ := h.flags (operandByte s f.operand) s.cpu.p
  rw [← hp] at hflags hcarry
  exact ⟨hcode, t, _, hexec, hresult, hcpu, hflags, hcarry, hframe⟩

/-- A shift of the accumulator gives A its result, changes P beside it, and accesses no memory (R77). -/
theorem execModifyA_eq (modify : Byte → Byte → Byte × Byte) (cycles : Nat) (s : State) :
    execModifyA cycles modify s = .next (s.setCpu { s.cpu with
      a := (modify s.cpu.a s.cpu.p).1
      p := setNZ (modify s.cpu.a s.cpu.p).2 (modify s.cpu.a s.cpu.p).1
      budget := cycles }) := rfl

/-- The accumulator form of a shift. -/
theorem Shifts.shiftsA (h : Shifts modify shifted out) {i : Instr} {code : Byte} {s : State}
    (hcode : encode i = [code]) (hexec : exec i s = execModifyA 2 modify s) : ShiftsA shifted out i code s := by
  obtain ⟨hresult, -⟩ := h s.cpu.a s.cpu.p
  obtain ⟨hflags, hcarry⟩ := h.flags s.cpu.a s.cpu.p
  exact ⟨hcode, _, hexec.trans (execModifyA_eq modify 2 s), hresult, rfl, hflags, hcarry, rfl⟩

end

theorem formsASL_modify (z : Byte) (w : Word) (s : State) : ∀ f ∈ formsASL z w,
    Encodes f ∧ exec f.instr s = execModify f.operand f.cycles aslOp flagsOfByte s := by
  intro f hf
  fin_cases hf <;> exact ⟨rfl, rfl⟩

theorem formsLSR_modify (z : Byte) (w : Word) (s : State) : ∀ f ∈ formsLSR z w,
    Encodes f ∧ exec f.instr s = execModify f.operand f.cycles lsrOp flagsOfByte s := by
  intro f hf
  fin_cases hf <;> exact ⟨rfl, rfl⟩

theorem formsROL_modify (z : Byte) (w : Word) (s : State) : ∀ f ∈ formsROL z w,
    Encodes f ∧ exec f.instr s = execModify f.operand f.cycles rolOp flagsOfByte s := by
  intro f hf
  fin_cases hf <;> exact ⟨rfl, rfl⟩

theorem formsROR_modify (z : Byte) (w : Word) (s : State) : ∀ f ∈ formsROR z w,
    Encodes f ∧ exec f.instr s = execModify f.operand f.cycles rorOp flagsOfByte s := by
  intro f hf
  fin_cases hf <;> exact ⟨rfl, rfl⟩

/-- Settles O18: each of the four is a shift as arithmetic, on its memory rows and on A. -/
theorem shiftsAndRotates : Obligations.ShiftsAndRotates := fun z w s =>
  ⟨aslOp_shifts.shiftsMemory (formsASL_modify z w s), lsrOp_shifts.shiftsMemory (formsLSR_modify z w s),
    rolOp_shifts.shiftsMemory (formsROL_modify z w s), rorOp_shifts.shiftsMemory (formsROR_modify z w s),
    aslOp_shifts.shiftsA rfl rfl, lsrOp_shifts.shiftsA rfl rfl, rolOp_shifts.shiftsA rfl rfl,
    rorOp_shifts.shiftsA rfl rfl⟩

/-! ### Increments and decrements -/

/-- `modify` adds `delta` to the byte modulo 256 and leaves P alone (R118, R119). -/
def Increments (modify : Byte → Byte → Byte × Byte) (delta : Nat) : Prop :=
  ∀ v p, (modify v p).1.toNat = (v.toNat + delta) % 256 ∧ (modify v p).2 = p

theorem incOp_increments : Increments incOp 1 := fun v _ => ⟨BitVec.toNat_add v 1, rfl⟩

theorem decOp_increments : Increments decOp 255 := fun v _ => ⟨toNat_sub_one v, rfl⟩

/-- The table rows of an increment of memory. -/
theorem Increments.addsToMemory {modify : Byte → Byte → Byte × Byte} {delta : Nat} (h : Increments modify delta)
    {forms : List MemForm} {s : State}
    (hf : ∀ f ∈ forms, Encodes f ∧ exec f.instr s = execModify f.operand f.cycles modify flagsOfByte s) :
    AddsToMemory delta forms s := by
  intro f hmem
  obtain ⟨hcode, t, hexec, hcpu, hp, hframe⟩ := plainModify_rows s hf f hmem
  obtain ⟨hresult, hkept⟩ := h (operandByte s f.operand) s.cpu.p
  rw [hkept] at hp
  exact ⟨hcode, t, _, hexec, hresult, hcpu, hp ▸ flagsFrom_setNZ _ _, hframe⟩

theorem formsINC_modify (z : Byte) (w : Word) (s : State) : ∀ f ∈ formsINC z w,
    Encodes f ∧ exec f.instr s = execModify f.operand f.cycles incOp flagsOfByte s := by
  intro f hf
  fin_cases hf <;> exact ⟨rfl, rfl⟩

theorem formsDEC_modify (z : Byte) (w : Word) (s : State) : ∀ f ∈ formsDEC z w,
    Encodes f ∧ exec f.instr s = execModify f.operand f.cycles decOp flagsOfByte s := by
  intro f hf
  fin_cases hf <;> exact ⟨rfl, rfl⟩

/-- Settles O19: INC adds 1, DEC adds 255, and neither changes P before SetNZ. -/
theorem incrementsOfMemory : Obligations.IncrementsOfMemory := fun z w s =>
  ⟨incOp_increments.addsToMemory (formsINC_modify z w s), decOp_increments.addsToMemory (formsDEC_modify z w s)⟩

end Sys2Proof.Machine

/-! Control transfer (O21 to O27; spec/44_control_transfer.md R124-R137). A branch and a jump are one change of PC; a
call, a return and an entry are pushes or pulls with another CPU. What undoes what rests on one fact about the stack:
pulling as many bytes as were pushed gives them back, the last one first. -/

namespace Sys2Proof.Machine

/-! ### Words by page and offset -/

theorem hiByte_toNat (w : Word) : (hiByte w).toNat = w.toNat / 256 := by
  rw [hiByte, BitVec.extractLsb'_toNat, Nat.shiftRight_eq_div_pow]
  exact Nat.mod_eq_of_lt (by have := w.isLt; omega)

theorem loByte_toNat (w : Word) : (loByte w).toNat = w.toNat % 256 := by
  rw [loByte, BitVec.extractLsb'_toNat, Nat.shiftRight_zero]

/-- Two addresses lie in the same page (R83). -/
theorem hiByte_eq_iff (a b : Word) : hiByte a = hiByte b ↔ a.toNat / 256 = b.toNat / 256 := by
  rw [← BitVec.toNat_inj, hiByte_toNat, hiByte_toNat]

/-- The address after a pointer in the pointer's own page (R85). -/
theorem wordOf_nextInPage {ptr next : Word} (h : next.toNat = 256 * (ptr.toNat / 256) + (ptr.toNat + 1) % 256) :
    wordOf (hiByte ptr) (loByte ptr + 1) = next := by
  apply BitVec.eq_of_toNat_eq
  rw [wordOf_toNat, BitVec.toNat_add, hiByte_toNat, loByte_toNat, h]
  show _ + (_ % 256 + 1) % 256 = _
  omega

/-! ### Branches -/

/-- A branch's target is the word whose number is the signed sum, modulo 65536 (R88). -/
theorem branchTarget_eq {pc target : Word} {d : Byte}
    (h : (target.toNat : Int) = ((pc.toNat : Int) + d.toInt) % 65536) : branchTarget pc d = target := by
  have hd : (d.signExtend 16).toInt = d.toInt := BitVec.toInt_signExtend_of_le (by decide)
  have hmod := BitVec.toInt_eq_toNat_bmod (d.signExtend 16)
  have hsum := BitVec.toNat_add pc (d.signExtend 16)
  apply BitVec.eq_of_toNat_eq
  rw [branchTarget, hsum]
  rw [hd, Int.bmod_def] at hmod
  split at hmod <;> omega

/-- The rows of the branch table: each is the branch of its flag and value (R125-R132). -/
theorem formsBranch_branch (d : Byte) (s : State) : ∀ f ∈ formsBranch d,
    encode f.instr = [f.opcode, d] ∧ exec f.instr s = execBranch d f.flag f.value s := by
  intro f hf
  fin_cases hf <;> exact ⟨rfl, rfl⟩

section

variable {s : State} {f : Flag} {value : Bool}

theorem execBranch_notTaken (d : Byte) (h : getFlag s.cpu.p f ≠ value) :
    execBranch d f value s = .next (s.setCpu { s.cpu with budget := 2 }) := if_neg h

theorem execBranch_taken (d : Byte) (h : getFlag s.cpu.p f = value) :
    execBranch d f value s = .next (s.setCpu { s.cpu with
      pc := branchTarget s.cpu.pc d
      budget := if hiByte (branchTarget s.cpu.pc d) = hiByte s.cpu.pc then 3 else 4 }) := if_pos h

end

/-- Settles O21: the branch of each row, not taken and taken; equal high bytes are equal pages. -/
theorem branchesTakeTheirTarget : Obligations.BranchesTakeTheirTarget := by
  intro d s f hmem
  obtain ⟨hcode, hexec⟩ := formsBranch_branch d s f hmem
  refine ⟨hcode, fun hnot => hexec.trans (execBranch_notTaken d hnot), fun htaken target htarget => ?_⟩
  rw [hexec, execBranch_taken d htaken, branchTarget_eq htarget]
  simp only [hiByte_eq_iff]

/-! ### Jumps -/

/-- JMP through a pointer: two reads, and the CPU with PC from them (R133, R85). -/
theorem exec_jmpInd {ptr next : Word} (s : State) (hnext : wordOf (hiByte ptr) (loByte ptr + 1) = next) :
    exec (.jmpInd ptr) s = .next ((memRead (memRead s ptr).2 next).2.setCpu { s.cpu with
      pc := wordOf (memRead (memRead s ptr).2 next).1 (memRead s ptr).1, budget := 5 }) := by
  show execJmpInd ptr s = _
  simp only [execJmpInd, finish, indirectTarget, readPair, hnext, setPc_eq, setBudget_eq, setCpu_setCpu, setCpu_cpu,
    memRead_cpu]

/-- Settles O22: the word read through the pointer is the one `exec_jmpInd` names, and two reads change no memory. -/
theorem jumpsSetPc : Obligations.JumpsSetPc := by
  refine ⟨fun _ _ => ⟨rfl, rfl⟩, fun ptr next s hnext => ?_⟩
  obtain ⟨hsame, hframe⟩ := readPair_frame s ptr next
  exact ⟨rfl, _, exec_jmpInd s (wordOf_nextInPage hnext), rfl, rfl, hsame, hframe.setCpu _⟩

/-! ### What was pushed is pulled -/

/-- With a cartridge whose contents are listed, reading a stack cell gives the RAM byte and changes nothing (R21). -/
theorem memRead_stackCell {s : State} (h : ∀ cs, s.cart ≠ .custom cs) (sp : Byte) :
    memRead s (stackCell sp) = (ramByte s (stackCell sp), s) := by
  rw [memRead_plain s _ ⟨h, .inl (stackCell_lt sp)⟩, peek_ram h (stackCell_lt sp)]

/-- The first of several pulls reads the cell above SP (R14). -/
theorem pulls_cons_listed {s : State} (h : ∀ cs, s.cart ≠ .custom cs) (sp : Byte) (n : Nat) :
    (pulls s sp (n + 1)).1 = ramByte s (stackCell (sp + 1)) :: (pulls s (sp + 1) n).1 := by
  simp only [pulls, memRead_stackCell h]

/-- The last of several pulls reads the highest cell (R14). -/
theorem pulls_concat_listed {s : State} (h : ∀ cs, s.cart ≠ .custom cs) (sp : Byte) (n : Nat) :
    (pulls s sp (n + 1)).1 = (pulls s sp n).1 ++ [ramByte s (stackCell (sp + BitVec.ofNat 8 (n + 1)))] := by
  induction n generalizing sp with
  | zero => exact pulls_cons_listed h sp 0
  | succ n ih =>
    have hcell : sp + 1 + BitVec.ofNat 8 (n + 1) = sp + BitVec.ofNat 8 (n + 1 + 1) := by
      rw [BitVec.add_assoc, Nat.add_comm (n + 1) 1, BitVec.ofNat_add 1 (n + 1)]
      rfl
    rw [pulls_cons_listed h, ih, hcell, pulls_cons_listed h, List.cons_append]

/-- Pulling as many bytes as the stack holds from the cell `top` down gives them back, the last pushed first. -/
theorem pulls_of_stackHolds {t : State} (h : ∀ cs, t.cart ≠ .custom cs) {sp top : Byte} {bytes : List Byte}
    (htop : top = sp + BitVec.ofNat 8 bytes.length) (hbytes : StackHolds t top bytes) :
    (pulls t sp bytes.length).1 = bytes.reverse := by
  induction bytes generalizing top with
  | nil => rfl
  | cons b bs ih =>
    obtain ⟨hb, hbs⟩ := hbytes
    have hbelow : top - 1 = sp + BitVec.ofNat 8 bs.length := by
      rw [htop, List.length_cons, BitVec.ofNat_add, ← BitVec.add_assoc]
      exact BitVec.add_sub_cancel _ _
    rw [List.length_cons, pulls_concat_listed h, ih hbelow hbs, ← List.length_cons, ← htop, hb, List.reverse_cons]

/-- Pushes keep a cartridge whose contents are listed one whose contents are listed (R49). -/
theorem afterPushes_listed {s : State} (h : ∀ cs, s.cart ≠ .custom cs) (sp : Byte) (bytes : List Byte) :
    ∀ cs, (afterPushes s sp bytes).cart ≠ .custom cs := by
  induction bytes generalizing s sp with
  | nil => exact h
  | cons b bs ih => exact ih (memWrite_prg s _ b h).1 (sp - 1)

/-- An entry does too: three pushes and two reads of the vector (R254). -/
theorem enter_listed {s : State} (h : ∀ cs, s.cart ≠ .custom cs) (vector returnTo : Word) (status : Byte) :
    ∀ cs, (enter s vector returnTo status).cart ≠ .custom cs := by
  have hpushed := afterPushes_listed h s.cpu.sp [hiByte returnTo, loByte returnTo, status]
  have hlow := memRead_cart _ vector hpushed
  have hboth := memRead_cart _ (vector + 1) (hlow.symm ▸ hpushed)
  rw [enter_eq, State.setCpu_cart, afterVector, hboth, hlow]
  exact hpushed

/-! ### Subroutines -/

/-- JSR: two pushes, and the CPU with SP moved down by 2 and PC at the operand (R134). -/
theorem exec_jsrAbs (a : Word) (s : State) :
    exec (.jsrAbs a) s = .next
      ((afterPushes s s.cpu.sp [hiByte (s.cpu.pc - 1), loByte (s.cpu.pc - 1)]).setCpu
        { s.cpu with pc := a, sp := s.cpu.sp - 2, budget := 6 }) := by
  show execJsrAbs a s = _
  simp only [execJsrAbs, finish, pushWord, push_eq, setPc_eq, setBudget_eq, setCpu_setCpu, setCpu_cpu, memWrite_setCpu,
    afterPushes, BitVec.sub_sub]
  rfl

/-- RTS: two pulls, and the CPU with SP moved up by 2 and PC after the word pulled (R135). -/
theorem exec_rts {s : State} {lo hi : Byte} (h : (pulls s s.cpu.sp 2).1 = [lo, hi]) :
    exec .rts s = .next ((pulls s s.cpu.sp 2).2.setCpu
      { s.cpu with pc := wordOf hi lo + 1, sp := s.cpu.sp + 2, budget := 6 }) := by
  obtain ⟨rfl, rfl⟩ : _ = lo ∧ _ = hi := by simpa only [pulls, List.cons.injEq, and_true] using h
  show execRts s = _
  simp only [execRts, finish, pullWord, pull_eq, setPc_eq, setBudget_eq, setCpu_setCpu, setCpu_cpu, memRead_setCpu,
    pulls, BitVec.add_assoc]
  rfl

/-- Settles O23: the outcomes of JSR and RTS, with the frames of pushes and pulls. -/
theorem subroutineInstructions : Obligations.SubroutineInstructions :=
  ⟨fun a s => ⟨rfl, _, exec_jsrAbs a s, rfl, afterPushes_frame s [_, _] _ (Nat.le_succ 2)⟩,
    fun s => ⟨rfl, _, _, _, exec_rts rfl, rfl, rfl, pulls_pullFrame s 2 _⟩⟩

/-- Settles O24: RTS pulls the two bytes JSR pushed, so that it goes to the word after `PC - 1`. -/
theorem rtsUndoesJsr : Obligations.RtsUndoesJsr := by
  intro a s t hlisted hjsr
  obtain ⟨-, t', hnext, hcpu, hmachine, ⟨hpushed, -⟩, hstack⟩ := subroutineInstructions.1 a s
  obtain rfl : t' = t := Host.Outcome.next.inj (hnext.symm.trans hjsr)
  have hlisted' : ∀ cs, t'.cart ≠ .custom cs := by
    rw [hmachine]
    exact afterPushes_listed hlisted _ _
  have htop : s.cpu.sp = t'.cpu.sp + 2 := by
    rw [hcpu]
    exact (BitVec.sub_add_cancel _ _).symm
  have hpulls := pulls_of_stackHolds hlisted' htop (hstack hlisted)
  refine ⟨_, exec_rts hpulls, ?_, fun cell hcell hother => ?_⟩
  · rw [wordOf_hiByte_loByte, ← htop, hcpu, BitVec.sub_add_cancel]
    rfl
  · obtain ⟨-, -, hpulled, -⟩ := pulls_pullFrame t' 2 t'.cpu
    exact (hpulled cell hcell nofun).trans (hpushed cell hcell hother)

/-! ### Interrupt entry and return -/

/-- What BRK pushes is the status with B = 1 (R23, R137). -/
theorem pushedStatus_pushedByProgram (p : Byte) : PushedStatus p true (pushedByProgram p) :=
  ⟨getFlag_pushedByProgram p .u, getFlag_pushedByProgram p .b, fun f hu hb => by
    rw [getFlag_pushedByProgram, if_neg hu, if_neg hb]⟩

/-- What NMI and IRQ push is the status with B = 0 (R23, R254). -/
theorem pushedStatus_pushedByInterrupt (p : Byte) : PushedStatus p false (pushedByInterrupt p) :=
  ⟨getFlag_pushedByInterrupt p .u, getFlag_pushedByInterrupt p .b, fun f hu hb => by
    rw [getFlag_pushedByInterrupt, if_neg hu, if_neg hb]⟩

/-- What RTI stores is the status it pulled (R23, R136). -/
theorem restoredStatus_pulledStatus (v : Byte) : RestoredStatus v (pulledStatus v) :=
  ⟨getFlag_pulledStatus v .u, getFlag_pulledStatus v .b, fun f hu hb => by
    rw [getFlag_pulledStatus, if_neg hu, if_neg hb]⟩

/-- Storing a pushed status gives back a status with the fixed bits, whichever B was pushed (R23, R259). -/
theorem PushedStatus.pulledStatus_eq {p v : Byte} {b : Bool} (h : PushedStatus p b v) (hp : statusFixed p) :
    pulledStatus v = p := by
  obtain ⟨-, -, hkept⟩ := h
  obtain ⟨hpu, hpb⟩ := hp
  apply eq_of_getFlag
  intro f
  rw [getFlag_pulledStatus]
  split_ifs with hu hb
  · rw [hu, hpu]
  · rw [hb, hpb]
  · exact hkept f hu hb

/-- What an entry writes and leaves unchanged (R254). -/
theorem enter_entryFrame (s : State) (vector returnTo : Word) (status : Byte) :
    EntryFrame s (enter s vector returnTo status) vector [hiByte returnTo, loByte returnTo, status] := by
  rw [enter_eq]
  exact enter_frame s vector [_, _, _] _ (Nat.le_refl 3)

/-- The CPU after an entry (R254). -/
theorem enter_cpu (s : State) (vector returnTo : Word) (status : Byte) :
    (enter s vector returnTo status).cpu = { s.cpu with
      pc := vectorWord (afterPushes s s.cpu.sp [hiByte returnTo, loByte returnTo, status]) vector
      sp := s.cpu.sp - 3, p := setFlag s.cpu.p .i true, budget := 7 } := by
  rw [enter_eq, setCpu_cpu]

/-- Writing a flag keeps every other one. -/
theorem flagsKept_setFlag (p : Byte) (f : Flag) (v : Bool) : FlagsKept [f] p (setFlag p f v) :=
  fun _ hg => getFlag_setFlag_other p v (List.ne_of_not_mem_cons hg)

/-- Settles O25: BRK is the shared entry, with its own return address and status. -/
theorem brkEntersHandler : Obligations.BrkEntersHandler := by
  intro s
  have hcpu : (brkEntry s).cpu = _ := enter_cpu s irqVector (s.cpu.pc + 1) (pushedByProgram s.cpu.p)
  have hp := congrArg Cpu.p hcpu
  refine ⟨rfl, brkEntry s, _, rfl, pushedStatus_pushedByProgram s.cpu.p, enter_entryFrame s _ _ _, ?_⟩
  rw [hp]
  exact ⟨hcpu, getFlag_setFlag_same s.cpu.p .i true, flagsKept_setFlag s.cpu.p .i true⟩

/-- RTI: three pulls, and the CPU with SP moved up by 3, P restored and PC the word pulled (R136, R259). -/
theorem exec_rti {s : State} {st lo hi : Byte} (h : (pulls s s.cpu.sp 3).1 = [st, lo, hi]) :
    exec .rti s = .next ((pulls s s.cpu.sp 3).2.setCpu
      { s.cpu with pc := wordOf hi lo, sp := s.cpu.sp + 3, p := pulledStatus st, budget := 6 }) := by
  obtain ⟨rfl, rfl, rfl⟩ : _ = st ∧ _ = lo ∧ _ = hi := by simpa only [pulls, List.cons.injEq, and_true] using h
  show execRti s = _
  simp only [execRti, finish, interruptReturn, pullWord, pull_eq, setP_eq, setPc_eq, setBudget_eq, setCpu_setCpu,
    setCpu_cpu, memRead_setCpu, pulls, BitVec.add_assoc]
  rfl

/-- Settles O26: the outcome of RTI, with the frame of three pulls. -/
theorem rtiReturns : Obligations.RtiReturns := fun s =>
  ⟨rfl, _, _, _, _, exec_rti rfl, rfl, restoredStatus_pulledStatus _, rfl, pulls_pullFrame s 3 _⟩

/-- RTI right after an entry: the three bytes the entry pushed come back (R254, R259). -/
theorem exec_rti_enter {s : State} (h : ∀ cs, s.cart ≠ .custom cs) (vector returnTo : Word) (status : Byte) :
    ∃ u, exec .rti (enter s vector returnTo status) = .next u ∧
      u.cpu = { s.cpu with pc := returnTo, p := pulledStatus status, budget := 6 } := by
  obtain ⟨-, -, hstack⟩ := enter_entryFrame s vector returnTo status
  have htop : s.cpu.sp = (enter s vector returnTo status).cpu.sp + 3 := by
    rw [enter_cpu]
    exact (BitVec.sub_add_cancel _ _).symm
  have hpulls := pulls_of_stackHolds (enter_listed h vector returnTo status) htop (hstack h)
  refine ⟨_, exec_rti hpulls, ?_⟩
  rw [wordOf_hiByte_loByte, ← htop, enter_cpu]
  rfl

/-- RTI right after an entry that saved P with its fixed bits, whatever becomes of the NMI request (R255, R259). -/
theorem rti_undoes_enter {s : State} (h : ∀ cs, s.cart ≠ .custom cs) (hp : statusFixed s.cpu.p) {b : Bool}
    {status : Byte} (hstatus : PushedStatus s.cpu.p b status) (pending : Bool) (vector back : Word) :
    ∃ u, exec .rti (enter (s.setNmiPending pending) vector back status) = .next u ∧ u.cpu.pc = back ∧
      u.cpu.sp = s.cpu.sp ∧ u.cpu.p = s.cpu.p ∧ u.cpu.a = s.cpu.a ∧ u.cpu.x = s.cpu.x ∧ u.cpu.y = s.cpu.y := by
  obtain ⟨u, hnext, hcpu⟩ := exec_rti_enter (s := s.setNmiPending pending) h vector back status
  rw [hstatus.pulledStatus_eq hp] at hcpu
  refine ⟨u, hnext, ?_⟩
  rw [hcpu]
  exact ⟨rfl, rfl, rfl, rfl, rfl, rfl⟩

/-- The IRQ acknowledge changes nothing with a cartridge whose contents are listed: it asserts no IRQ (R50, R243). -/
theorem acknowledgeIrq_listed {s : State} (h : ∀ cs, s.cart ≠ .custom cs) : acknowledgeIrq s = s := by
  have hirq : cartGetIrq s.cart = false := by
    cases hc : s.cart with
    | absent => rfl
    | board m => rfl
    | custom cs => exact absurd hc (h cs)
  unfold acknowledgeIrq
  rw [hirq]
  cases s.params.mapperIrqAck <;> rfl

/-- Settles O27: each entry is the shared one, with a status that RTI turns back into P. -/
theorem rtiUndoesEntry : Obligations.RtiUndoesEntry := by
  intro s t back hlisted hfixed hentry
  obtain ⟨rfl, rfl⟩ | ⟨rfl, rfl⟩ | ⟨hbrk, rfl⟩ := hentry
  · exact rti_undoes_enter hlisted hfixed (pushedStatus_pushedByInterrupt s.cpu.p) false nmiVector s.cpu.pc
  · rw [irqEntry, acknowledgeIrq_listed hlisted]
    exact rti_undoes_enter hlisted hfixed (pushedStatus_pushedByInterrupt s.cpu.p) s.cpu.nmiPending irqVector s.cpu.pc
  · obtain rfl : brkEntry s = t := Host.Outcome.next.inj hbrk
    exact rti_undoes_enter hlisted hfixed (pushedStatus_pushedByProgram s.cpu.p) s.cpu.nmiPending irqVector
      (s.cpu.pc + 1)

end Sys2Proof.Machine

/-! Stack, flags and no operation (O28 to O30; spec/45_stack_flags_nop.md R138-R149, spec/46_undocumented.md R171). A
stack instruction is one push, or one pull with what is done to the byte pulled; a flag instruction is one write of P;
a NOP with an operand in memory is the reading shape with nothing done to the byte. -/

namespace Sys2Proof.Machine

/-! ### One push and one pull -/

/-- One push completes: SP moves down by 1, and the byte stands where SP was (R14, R76). -/
theorem finish_push_outcome (s : State) (v : Byte) (cycles : Nat) :
    ∃ t, finish (push s v) cycles = .next t ∧ t.cpu = { s.cpu with sp := s.cpu.sp - 1, budget := cycles } ∧
      PushFrame s t [v] := by
  refine ⟨_, rfl, ?_⟩
  rw [push_eq, setBudget_eq, setCpu_setCpu]
  exact ⟨rfl, afterPushes_frame s [v] _ (by decide : 1 ≤ 3)⟩

/-- One pull, and a change `g` of the CPU by the byte pulled: SP moves up by 1 before it (R14, R76). -/
theorem finish_pull_outcome {op : State → Byte → State} {g : Cpu → Byte → Cpu}
    (hop : ∀ s v, op s v = s.setCpu (g s.cpu v)) (s : State) (cycles : Nat) :
    ∃ t v, finish (op (pull s).2 (pull s).1) cycles = .next t ∧ (pulls s s.cpu.sp 1).1 = [v] ∧
      t.cpu = { g { s.cpu with sp := s.cpu.sp + 1 } v with budget := cycles } ∧ PullFrame s t 1 := by
  refine ⟨_, _, rfl, rfl, ?_⟩
  rw [hop, pull_eq, setBudget_eq, setCpu_setCpu, setCpu_setCpu]
  exact ⟨rfl, pulls_pullFrame s 1 _⟩

/-- PLA: N and Z say what the pulled byte is (R140). -/
theorem execPla_outcome (s : State) :
    ∃ t v, execPla s = .next t ∧ (pulls s s.cpu.sp 1).1 = [v] ∧
      t.cpu = { s.cpu with a := v, sp := s.cpu.sp + 1, p := t.cpu.p, budget := 4 } ∧
      FlagsFrom v [] s.cpu.p t.cpu.p ∧ PullFrame s t 1 := by
  obtain ⟨t, v, hnext, hpull, hcpu, hframe⟩ := finish_pull_outcome loadA_loads s 4
  have hp : t.cpu.p = setNZ s.cpu.p v := congrArg Cpu.p hcpu
  exact ⟨t, v, hnext, hpull, by rw [hp]; exact hcpu, hp ▸ flagsFrom_setNZ _ _, hframe⟩

/-- PLP: the pulled byte becomes the status, with B = 0 and U = 1 forced (R141, R23). -/
theorem execPlp_outcome (s : State) :
    ∃ t v, execPlp s = .next t ∧ (pulls s s.cpu.sp 1).1 = [v] ∧
      t.cpu = { s.cpu with sp := s.cpu.sp + 1, p := t.cpu.p, budget := 4 } ∧ RestoredStatus v t.cpu.p ∧
      PullFrame s t 1 := by
  obtain ⟨t, v, hnext, hpull, hcpu, hframe⟩ :=
    finish_pull_outcome (g := fun c v => { c with p := pulledStatus v }) (fun s v => setP_eq s (pulledStatus v)) s 4
  have hp : t.cpu.p = pulledStatus v := congrArg Cpu.p hcpu
  exact ⟨t, v, hnext, hpull, by rw [hp]; exact hcpu, hp ▸ restoredStatus_pulledStatus v, hframe⟩

/-- PHP pushes the status with B = 1 and U = 1 (R139, R23). -/
theorem execPhp_outcome (s : State) :
    ∃ t v, execPhp s = .next t ∧ PushedStatus s.cpu.p true v ∧
      t.cpu = { s.cpu with sp := s.cpu.sp - 1, budget := 3 } ∧ PushFrame s t [v] :=
  let ⟨t, hnext, hcpu, hframe⟩ := finish_push_outcome s (pushedByProgram s.cpu.p) 3
  ⟨t, _, hnext, pushedStatus_pushedByProgram s.cpu.p, hcpu, hframe⟩

/-- Settles O28: PHA and PHP are one push, PLA and PLP one pull. -/
theorem stackInstructions : Obligations.StackInstructions := fun s =>
  ⟨⟨rfl, finish_push_outcome s s.cpu.a 3⟩, ⟨rfl, execPhp_outcome s⟩, ⟨rfl, execPla_outcome s⟩,
    ⟨rfl, execPlp_outcome s⟩⟩

/-! ### The no-operations -/

/-- The NOPs without an operand in memory only take their two cycles (R149, R171). -/
theorem formsNopImplied_finish (s : State) : ∀ i ∈ formsNopImplied, exec i s = finish s 2 := by
  intro i hi
  fin_cases hi <;> rfl

theorem formsNopImmediate_finish (v : Byte) (s : State) : ∀ i ∈ formsNopImmediate v, exec i s = finish s 2 := by
  intro i hi
  fin_cases hi <;> rfl

/-- The memory rows of NOP read their operand and do nothing with the byte (R171). -/
theorem formsNOP_read (z : Byte) (w : Word) (s : State) : ∀ f ∈ formsNOP z w,
    Encodes f ∧ exec f.instr s = execRead f.operand f.cycles f.page ignoreByte s := by
  intro f hf
  fin_cases hf <;> exact ⟨rfl, rfl⟩

/-- A NOP's operation leaves the CPU as it is. -/
theorem ignoreByte_eq (s : State) (v : Byte) : ignoreByte s v = s.setCpu s.cpu := (setCpu_self s).symm

/-- Settles O30: `finish` alone, and the reading shape with an operation that changes nothing. -/
theorem nopsOnlyRead : Obligations.NopsOnlyRead := fun z w s =>
  ⟨formsNopImplied_finish s, formsNopImmediate_finish z s,
    reading_rows (formsNOP z w) ignoreByte (fun c _ => c) ignoreByte_eq s (formsNOP_read z w s)⟩

/-! ### The flag instructions -/

/-- The rows of the flag table: each writes its flag in P and ends after two cycles (R142-R148). -/
theorem formsFlag_write (s : State) : ∀ f ∈ formsFlag,
    encode f.instr = [f.opcode] ∧ exec f.instr s = finish (s.setP (setFlag s.cpu.p f.flag f.value)) 2 := by
  intro f hf
  fin_cases hf <;> exact ⟨rfl, rfl⟩

/-- Settles O29: a write of one flag gives it its value and keeps every other one. -/
theorem flagInstructionsWriteOneFlag : Obligations.FlagInstructionsWriteOneFlag := by
  intro s f hf
  obtain ⟨hcode, hexec⟩ := formsFlag_write s f hf
  exact ⟨hcode, _, hexec, rfl, getFlag_setFlag_same s.cpu.p f.flag f.value,
    flagsKept_setFlag s.cpu.p f.flag f.value, rfl⟩

end Sys2Proof.Machine

/-! Undocumented instructions (O31 to O36; spec/46_undocumented.md R150-R156, R159-R164, R166-R170, R172). A
read-modify-write that goes on to an operation on A is that operation on the byte written: what the operation does to a
byte at hand, and what the change does to the byte read, are known from the documented instructions, and the lemmas here
compose the two. The immediate combinations are operations on A, X and P with relations of their own; a high-byte store
is one write whose value and address are said once for all five opcodes. -/

namespace Sys2Proof.Machine

/-! ### Flags around a write of one flag -/

/-- SetNZ after a write of C: N and Z from the byte, C written beside them. -/
theorem flagsFrom_setNZ_setFlag_c (p v : Byte) (b : Bool) : FlagsFrom v [.c] p (setNZ (setFlag p .c b) v) :=
  (flagsFrom_setNZ _ _).after_setFlag

/-- A write of another flag after N and Z are set adds that flag to those written. -/
theorem FlagsFrom.then_setFlag {v p q : Byte} {l : List Flag} (h : FlagsFrom v l p q) {f : Flag} (b : Bool)
    (hn : f ≠ .n) (hz : f ≠ .z) : FlagsFrom v (f :: l) p (setFlag q f b) := by
  obtain ⟨hN, hZ, hkept⟩ := h
  refine ⟨?_, ?_, fun g hg => ?_⟩
  · rw [getFlag_setFlag_other q b hn.symm, hN]
  · rw [getFlag_setFlag_other q b hz.symm, hZ]
  · simp only [List.mem_cons, not_or] at hg
    obtain ⟨hgn, hgz, hgf, hgl⟩ := hg
    rw [getFlag_setFlag_other q b hgf]
    exact hkept g (by simp only [List.mem_cons, hgn, hgz, hgl, or_self, not_false_eq_true])

/-! ### SLO, RLA and SRE -/

/-- The table rows of a shift of memory that goes on to load A with a combination of A and the byte written (R150). -/
theorem Shifts.shiftsAndCombines {modify : Byte → Byte → Byte × Byte} {shifted : Nat → Nat → Nat} {out : Nat}
    {opA : State → Byte → State} {combine : Byte → Byte → Byte} {forms : List MemForm} {s : State}
    (h : Shifts modify shifted out) (hop : Loads opA (fun c m => combine c.a m) (fun c v => { c with a := v }))
    (hf : ∀ f ∈ forms, Encodes f ∧ exec f.instr s = execModify f.operand f.cycles modify opA s) :
    ShiftsAndCombines shifted out combine forms s := by
  intro f hmem
  obtain ⟨hcode, t, hexec, hcpu, hframe⟩ := modifying_rows forms modify opA (loadedCpu _ _) hop s hf f hmem
  obtain ⟨hresult, hstatus⟩ := h (operandByte s f.operand) s.cpu.p
  have hp : t.cpu.p = setNZ (setFlag s.cpu.p .c ((operandByte s f.operand).getLsbD out))
      (combine s.cpu.a (modify (operandByte s f.operand) s.cpu.p).1) := by
    rw [← hstatus]
    exact congrArg Cpu.p hcpu
  refine ⟨hcode, t, _, hexec, hresult, ?_, ?_, ?_, hframe⟩
  · rw [hcpu]
    rfl
  · rw [hp]
    exact flagsFrom_setNZ_setFlag_c _ _ _
  · rw [hp]
    exact getFlag_c_setNZ_setFlag _ _ _

theorem formsSLO_modify (z : Byte) (w : Word) (s : State) : ∀ f ∈ formsSLO z w,
    Encodes f ∧ exec f.instr s = execModify f.operand f.cycles aslOp oraA s := by
  intro f hf
  fin_cases hf <;> exact ⟨rfl, rfl⟩

theorem formsRLA_modify (z : Byte) (w : Word) (s : State) : ∀ f ∈ formsRLA z w,
    Encodes f ∧ exec f.instr s = execModify f.operand f.cycles rolOp andA s := by
  intro f hf
  fin_cases hf <;> exact ⟨rfl, rfl⟩

theorem formsSRE_modify (z : Byte) (w : Word) (s : State) : ∀ f ∈ formsSRE z w,
    Encodes f ∧ exec f.instr s = execModify f.operand f.cycles lsrOp eorA s := by
  intro f hf
  fin_cases hf <;> exact ⟨rfl, rfl⟩

/-- Settles O31: SLO is ASL then ORA, RLA is ROL then AND, SRE is LSR then EOR. -/
theorem shiftAndCombine : Obligations.ShiftAndCombine := fun z w s =>
  ⟨aslOp_shifts.shiftsAndCombines oraA_loads (formsSLO_modify z w s),
    rolOp_shifts.shiftsAndCombines andA_loads (formsRLA_modify z w s),
    lsrOp_shifts.shiftsAndCombines eorA_loads (formsSRE_modify z w s)⟩

/-! ### RRA, DCP and ISC -/

/-- The table rows of a read-modify-write that goes on to an operation on A and P: its relation holds of the byte and
the status the change of the byte leaves (R150). -/
theorem SetsAP.modify_rows {R : Byte → Byte → Byte → Byte → Byte → Prop} {op : State → Byte → State}
    {modify : Byte → Byte → Byte × Byte} {forms : List MemForm} (h : SetsAP R op) (s : State)
    (hf : ∀ f ∈ forms, Encodes f ∧ exec f.instr s = execModify f.operand f.cycles modify op s) :
    ∀ f ∈ forms, Encodes f ∧ ∃ t, exec f.instr s = .next t ∧
      t.cpu = { s.cpu with a := t.cpu.a, p := t.cpu.p, budget := f.cycles } ∧
      R s.cpu.a (modify (operandByte s f.operand) s.cpu.p).1 (modify (operandByte s f.operand) s.cpu.p).2
        t.cpu.a t.cpu.p ∧
      WriteFrame s (afterOperand s f.operand) t (effectiveAddress s f.operand)
        (modify (operandByte s f.operand) s.cpu.p).1 := by
  obtain ⟨result, flags, hR, hop⟩ := h
  intro f hmem
  obtain ⟨hcode, t, hexec, hcpu, hframe⟩ := modifying_rows forms modify op
    (fun c m => { c with a := result c m, p := flags c m }) hop s hf f hmem
  refine ⟨hcode, t, hexec, ?_, ?_, hframe⟩
  · rw [hcpu]
  · rw [hcpu]
    exact hR { s.cpu with p := (modify (operandByte s f.operand) s.cpu.p).2 } _

/-- The table rows of a read-modify-write that goes on to an operation on P alone (R150). -/
theorem SetsP.modify_rows {R : Cpu → Byte → Byte → Prop} {op : State → Byte → State}
    {modify : Byte → Byte → Byte × Byte} {forms : List MemForm} (h : SetsP R op) (s : State)
    (hf : ∀ f ∈ forms, Encodes f ∧ exec f.instr s = execModify f.operand f.cycles modify op s) :
    ∀ f ∈ forms, Encodes f ∧ ∃ t, exec f.instr s = .next t ∧
      t.cpu = { s.cpu with p := t.cpu.p, budget := f.cycles } ∧
      R { s.cpu with p := (modify (operandByte s f.operand) s.cpu.p).2 }
        (modify (operandByte s f.operand) s.cpu.p).1 t.cpu.p ∧
      WriteFrame s (afterOperand s f.operand) t (effectiveAddress s f.operand)
        (modify (operandByte s f.operand) s.cpu.p).1 := by
  obtain ⟨flags, hR, hop⟩ := h
  intro f hmem
  obtain ⟨hcode, t, hexec, hcpu, hframe⟩ := modifying_rows forms modify op
    (fun c m => { c with p := flags c m }) hop s hf f hmem
  refine ⟨hcode, t, hexec, ?_, ?_, hframe⟩
  · rw [hcpu]
  · rw [hcpu]
    exact hR _ _

theorem formsDCP_modify (z : Byte) (w : Word) (s : State) : ∀ f ∈ formsDCP z w,
    Encodes f ∧ exec f.instr s = execModify f.operand f.cycles decOp compareA s := by
  intro f hf
  fin_cases hf <;> exact ⟨rfl, rfl⟩

/-- Settles O32: RRA is ROR then ADC with the carry ROR leaves, DCP is DEC then CMP, ISC is INC then SBC. -/
theorem modifyAndCompute : Obligations.ModifyAndCompute := by
  intro z w s
  refine ⟨fun f hf => ?_, fun f hf => ?_, fun f hf => ?_⟩
  · obtain ⟨hcode, t, hexec, hcpu, hadds, hframe⟩ := adcA_setsAP.modify_rows s (formsRRA_modify z w s) f hf
    obtain ⟨hresult, hstatus⟩ := rorOp_shifts (operandByte s f.operand) s.cpu.p
    rw [hstatus] at hadds
    exact ⟨hcode, t, _, _, hexec, hresult, getFlag_setFlag_same _ _ _, flagsKept_setFlag _ _ _, hcpu, hadds, hframe⟩
  · obtain ⟨hcode, t, hexec, hcpu, hcompares, hframe⟩ := compareA_setsP.modify_rows s (formsDCP_modify z w s) f hf
    obtain ⟨hresult, hstatus⟩ := decOp_increments (operandByte s f.operand) s.cpu.p
    rw [hstatus] at hcompares
    exact ⟨hcode, t, _, hexec, hresult, hcpu, hcompares, hframe⟩
  · obtain ⟨hcode, t, hexec, hcpu, hsubtracts, hframe⟩ := sbcA_setsAP.modify_rows s (formsISC_modify z w s) f hf
    obtain ⟨hresult, hstatus⟩ := incOp_increments (operandByte s f.operand) s.cpu.p
    rw [hstatus] at hsubtracts
    exact ⟨hcode, t, _, hexec, hresult, hcpu, hsubtracts, hframe⟩

/-! ### ANC, ALR, ARR and AXS -/

/-- `r` and `q` are what ANC makes of `a`, `m` and the status `p` (R159). -/
def AndsIntoCarry (a m p r q : Byte) : Prop :=
  r = a &&& m ∧ FlagsFrom r [.c] p q ∧ getFlag q .c = r.getLsbD 7

/-- `r` and `q` are what ALR makes of `a`, `m` and the status `p` (R160). -/
def AndsAndShifts (a m p r q : Byte) : Prop :=
  r.toNat = (a &&& m).toNat / 2 ∧ FlagsFrom r [.c] p q ∧ getFlag q .c = (a &&& m).getLsbD 0

/-- `r` and `q` are what ARR makes of `a`, `m` and the status `p` (R161). -/
def AndsAndRotates (a m p r q : Byte) : Prop :=
  r.toNat = (a &&& m).toNat / 2 + 128 * (getFlag p .c).toNat ∧ FlagsFrom r [.c, .v] p q ∧
  getFlag q .c = r.getLsbD 6 ∧ getFlag q .v = (r.getLsbD 6 ^^ r.getLsbD 5)

theorem ancA_setsAP : SetsAP AndsIntoCarry ancA :=
  ⟨_, _, fun c _ => ⟨rfl, (flagsFrom_setNZ c.p _).then_setFlag _ nofun nofun, getFlag_setFlag_same _ _ _⟩,
    fun _ _ => rfl⟩

/-- ALR is LSR of the AND (R160). -/
theorem alrA_setsAP : SetsAP AndsAndShifts alrA :=
  ⟨_, _, fun c m => ⟨(lsrOp_eq (c.a &&& m) c.p).1, lsrOp_shifts.flags (c.a &&& m) c.p⟩, fun _ _ => rfl⟩

/-- ARR's result is that of ROR of the AND (R161). -/
theorem arrResult_eq (p a m : Byte) : arrResult p a m = (rorOp (a &&& m) p).1 := rfl

theorem arrFlags_flagsFrom (p a m : Byte) : FlagsFrom (arrResult p a m) [.c, .v] p (arrFlags p a m) := by
  refine ⟨?_, ?_, fun f hf => ?_⟩
  · rw [getFlag_arrFlags]
    rfl
  · rw [getFlag_arrFlags]
    rfl
  · simp only [List.mem_cons, List.not_mem_nil, or_false, not_or] at hf
    obtain ⟨hn, hz, hc, hv⟩ := hf
    simp only [getFlag_arrFlags, hn, hz, hc, hv, if_false]

theorem arrResult_andsAndRotates (p a m : Byte) : AndsAndRotates a m p (arrResult p a m) (arrFlags p a m) := by
  refine ⟨?_, arrFlags_flagsFrom p a m, ?_, ?_⟩
  · rw [arrResult_eq]
    exact (rorOp_eq (a &&& m) p).1
  · rw [getFlag_arrFlags]
    rfl
  · rw [getFlag_arrFlags]
    rfl

theorem arrA_setsAP : SetsAP AndsAndRotates arrA :=
  ⟨_, _, fun c m => arrResult_andsAndRotates c.p c.a m, fun _ _ => rfl⟩

/-- Adding back what was subtracted, modulo 256. -/
theorem toNat_sub_add (a m : Byte) : ((a - m).toNat + m.toNat) % 256 = a.toNat := by
  rw [← BitVec.toNat_add, BitVec.sub_add_cancel]

/-- AXS: X alone becomes the difference, with C for no borrow (R162). -/
theorem axsX_outcome (s : State) (m : Byte) :
    ∃ t, finish (axsX s m) 2 = .next t ∧ t.cpu = { s.cpu with x := t.cpu.x, p := t.cpu.p, budget := 2 } ∧
      (t.cpu.x.toNat + m.toNat) % 256 = (s.cpu.a &&& s.cpu.x).toNat ∧ FlagsFrom t.cpu.x [.c] s.cpu.p t.cpu.p ∧
      getFlag t.cpu.p .c = decide (m.toNat ≤ (s.cpu.a &&& s.cpu.x).toNat) ∧ RegisterFrame s t :=
  ⟨_, rfl, rfl, toNat_sub_add _ _, flagsFrom_setNZ_setFlag_c _ _ _, getFlag_c_setNZ_setFlag _ _ _, rfl⟩

/-- Settles O33: ANC, ALR and ARR set A and P by their relations, and AXS sets X and P. -/
theorem immediateCombinations : Obligations.ImmediateCombinations := by
  intro v s
  refine ⟨⟨rfl, rfl, rfl, ?_⟩, ⟨rfl, ?_⟩, ⟨rfl, ?_⟩, ⟨rfl, axsX_outcome s v⟩⟩
  · obtain ⟨t, hnext, hcpu, ⟨hr, hflags, hcarry⟩, hframe⟩ := ancA_setsAP.finish_outcome s v 2
    rw [hr] at hcpu hflags hcarry
    exact ⟨t, hnext, hcpu, hflags, hcarry, hframe⟩
  · obtain ⟨t, hnext, hcpu, ⟨hr, hflags, hcarry⟩, hframe⟩ := alrA_setsAP.finish_outcome s v 2
    exact ⟨t, hnext, hcpu, hr, hflags, hcarry, hframe⟩
  · obtain ⟨t, hnext, hcpu, ⟨hr, hflags, hcarry, hoverflow⟩, hframe⟩ := arrA_setsAP.finish_outcome s v 2
    exact ⟨t, hnext, hcpu, hr, hflags, hcarry, hoverflow, hframe⟩

/-! ### XAA and LXA -/

/-- Settles O34: each is a load of a byte at hand, whatever the value of its constant. -/
theorem unstableImmediates : Obligations.UnstableImmediates := by
  intro v s
  constructor
  · obtain ⟨t, hnext, hcpu, hflags, hframe⟩ :=
      loadA_loads.finish_outcome s ((s.cpu.a ||| s.params.xaaMagic) &&& s.cpu.x &&& v) 2
    exact ⟨rfl, t, _, hnext, rfl, hcpu, hflags, hframe⟩
  · obtain ⟨t, hnext, hcpu, hflags, hframe⟩ :=
      loadAX_loads.finish_outcome s ((s.cpu.a ||| s.params.lxaMagic) &&& v) 2
    exact ⟨rfl, t, _, hnext, rfl, hcpu, hflags, hframe⟩

/-! ### The high-byte stores -/

/-- Where a high-byte store writes, by whether the pages of the base and of the effective address agree (R166). -/
theorem highStoreAddress_eq (e : Effective) (r : Byte) :
    highStoreAddress e r = if hiByte e.ea = hiByte e.base then e.ea else wordOf (highStoreValue e r) (loByte e.ea) := by
  by_cases h : hiByte e.ea = hiByte e.base
  · simp only [highStoreAddress, crossed, h, bne_self_eq_false, Bool.false_eq_true, if_false, if_true]
  · simp only [highStoreAddress, crossed, h, bne_iff_ne.mpr h, if_false, if_true]

section

variable {before : State → State} {reg : Cpu → Byte} {s : State} {sp' : Byte}

/-- A high-byte store under SH_POLICY = `formula`, whose first action writes SP: one write on the machine after the
pointer reads, the register taken with the SP written (R166, R170). -/
theorem execHighStore_formula (hpolicy : s.params.shPolicy = .formula)
    (hbefore : before s = s.setCpu { s.cpu with sp := sp' }) (opcode : Byte) (o : MemOperand) (c : Nat) :
    execHighStore opcode o c before reg s = .next
      ((memWrite (afterPointer s o) (highStoreAddress (effective s o).1 (reg { s.cpu with sp := sp' }))
        (highStoreValue (effective s o).1 (reg { s.cpu with sp := sp' }))).setCpu
          { s.cpu with sp := sp', budget := c }) := by
  have heffective := effective_setCpu s { s.cpu with sp := sp' } o rfl rfl
  simp only [execHighStore, hpolicy, hbefore, heffective, setCpu_cpu, memWrite_setCpu, finish, setBudget_eq,
    setCpu_setCpu]
  rfl

/-- The same store under SH_POLICY = `refuse` (R166). -/
theorem execHighStore_refuse (hpolicy : s.params.shPolicy = .refuse) (opcode : Byte) (o : MemOperand) (c : Nat) :
    execHighStore opcode o c before reg s = .refused (.unstableStore opcode) := by
  rw [execHighStore, hpolicy]

/-- The table rows of a high-byte store, under both policies. -/
theorem highStores_rows {forms : List MemForm} (hbefore : before s = s.setCpu { s.cpu with sp := sp' })
    (hf : ∀ f ∈ forms, Encodes f ∧ exec f.instr s = execHighStore f.opcode f.operand f.cycles before reg s) :
    HighStores (reg { s.cpu with sp := sp' }) sp' forms s := by
  intro f hmem
  obtain ⟨hcode, hexec⟩ := hf f hmem
  obtain ⟨hmemory, hlisted⟩ := afterPointer_frame s f.operand
  refine ⟨hcode, fun hpolicy => ?_, fun hpolicy => hexec.trans (execHighStore_refuse hpolicy _ _ _)⟩
  exact ⟨_, _, _, hexec.trans (execHighStore_formula hpolicy hbefore _ _ _), rfl, highStoreAddress_eq _ _, rfl,
    writeFrame_setCpu _ _ _ _ _ hmemory hlisted⟩

end

theorem formsAHX_store (z : Byte) (w : Word) (s : State) : ∀ f ∈ formsAHX z w,
    Encodes f ∧ exec f.instr s = execHighStore f.opcode f.operand f.cycles id (fun c => c.a &&& c.x) s := by
  intro f hf
  fin_cases hf <;> exact ⟨rfl, rfl⟩

theorem formsSHX_store (w : Word) (s : State) : ∀ f ∈ formsSHX w,
    Encodes f ∧ exec f.instr s = execHighStore f.opcode f.operand f.cycles id Cpu.x s := by
  intro f hf
  obtain rfl := List.mem_singleton.mp hf
  exact ⟨rfl, rfl⟩

theorem formsSHY_store (w : Word) (s : State) : ∀ f ∈ formsSHY w,
    Encodes f ∧ exec f.instr s = execHighStore f.opcode f.operand f.cycles id Cpu.y s := by
  intro f hf
  obtain rfl := List.mem_singleton.mp hf
  exact ⟨rfl, rfl⟩

theorem formsTAS_store (w : Word) (s : State) : ∀ f ∈ formsTAS w, Encodes f ∧
    exec f.instr s = execHighStore f.opcode f.operand f.cycles (fun s => s.setSp (s.cpu.a &&& s.cpu.x)) Cpu.sp s := by
  intro f hf
  obtain rfl := List.mem_singleton.mp hf
  exact ⟨rfl, rfl⟩

/-- Settles O35: AHX, SHX and SHY leave SP as it is, and TAS stores the SP it has just written. -/
theorem highByteStores : Obligations.HighByteStores := fun z w s =>
  ⟨highStores_rows (sp' := s.cpu.sp) rfl (formsAHX_store z w s),
    highStores_rows (sp' := s.cpu.sp) rfl (formsSHX_store w s),
    highStores_rows (sp' := s.cpu.sp) rfl (formsSHY_store w s),
    highStores_rows (sp' := s.cpu.a &&& s.cpu.x) rfl (formsTAS_store w s)⟩

/-! ### JAM -/

theorem formsJam_jam (s : State) : ∀ f ∈ formsJam, encode f.1 = [f.2] ∧ exec f.1 s = execJam f.2 s := by
  intro f hf
  fin_cases hf <;> exact ⟨rfl, rfl⟩

/-- Under JAM_POLICY = `halt` a JAM sets the jammed bit and nothing else (R172; log entry 14). -/
theorem execJam_halt {s : State} (h : s.params.jamPolicy = .halt) (opcode : Byte) :
    execJam opcode s = .next (s.setCpu { s.cpu with jammed := true }) := by
  rw [execJam, h, setJammed_eq]

/-- Under JAM_POLICY = `fault` a JAM ends the run (R172). -/
theorem execJam_fault {s : State} (h : s.params.jamPolicy = .fault) (opcode : Byte) :
    execJam opcode s = .fault (.jam opcode) := by
  rw [execJam, h]

/-- Settles O36: the twelve opcodes are one instruction, whose two policies are the two outcomes. -/
theorem jamStopsTheCpu : Obligations.JamStopsTheCpu := by
  intro s f hf
  obtain ⟨hcode, hexec⟩ := formsJam_jam s f hf
  exact ⟨hcode, fun h => hexec.trans (execJam_halt h f.2), fun h => hexec.trans (execJam_fault h f.2)⟩

end Sys2Proof.Machine

/-! The CPU slot of a tick and what stands around it (O39 to O42, O44, O50; spec/49_bus_dma_io.md R238, R239, R242,
R243, R262, spec/60_exceptions.md R253-R257, spec/70_reset_and_hazards.md R269-R271). Whatever the CPU or the DMA engine
does in its slot, it moves none of the counters of time and leaves the PPU's NMI request for the end of the tick,
`SlotUntouched`; an entry is the shared one of the control transfers, with its own return address and status. -/

namespace Sys2Proof.Machine

/-! ### What the CPU and the DMA engine do in their slot -/

/-- What a property of machines needs for the CPU and the DMA engine to keep it in their slot (R239). `StepKeeps`
asks it of the other parts of a tick too, which move the counters. -/
structure SlotKeeps (I : State → Prop) : Prop extends BusKeeps I where
  dma : ∀ s, I s → I (dmaCycle s)
  acknowledge : ∀ s, I s → I (acknowledgeIrq s)

section
variable {I : State → Prop} {s t : State}

theorem SlotKeeps.irqEntry (k : SlotKeeps I) (h : I s) : I (irqEntry s) :=
  k.toBusKeeps.enter _ _ _ _ (k.acknowledge s h)

theorem SlotKeeps.nmiEntry (k : SlotKeeps I) (h : I s) : I (nmiEntry s) :=
  k.toBusKeeps.enter _ _ _ _ (k.sameP s { s.cpu with nmiPending := false } rfl h)

/-- The boundary's work, case by case (R253). -/
theorem SlotKeeps.cpuBoundary (k : SlotKeeps I) (h : I s) (e : cpuBoundary s = .next t) : I t := by
  unfold Machine.cpuBoundary at e
  split at e
  · injection e with e; exact e ▸ h
  · split at e
    · injection e with e; exact e ▸ k.nmiEntry h
    · split at e
      · injection e with e; exact e ▸ k.irqEntry h
      · exact exec_keeps k.toBusKeeps _ (fetchInstr_keeps k.toBusKeeps s h) e

theorem SlotKeeps.cpuCycle (k : SlotKeeps I) (h : I s) (e : cpuCycle s = .next t) : I t := by
  obtain ⟨u, hu, rfl⟩ := thenNext_next e
  refine k.setBudget _ _ ?_
  split at hu
  · exact k.cpuBoundary h hu
  · injection hu with hu; exact hu ▸ h

/-- A slot is the work of the DMA engine or of the CPU, and then it is counted (R239). -/
theorem SlotKeeps.cpuSlot (k : SlotKeeps I) (h : I s) (e : cpuSlot s = .next t) :
    ∃ u, I u ∧ t = countSlot u := by
  obtain ⟨u, hu, rfl⟩ := thenNext_next e
  refine ⟨u, ?_, rfl⟩
  split at hu
  · injection hu with hu; exact hu ▸ k.dma s h
  · exact k.cpuCycle h hu

end

/-- The counters of time and the PPU's NMI request are as before. -/
structure SlotUntouched (s t : State) : Prop where
  tick : t.tick = s.tick
  cpuCycles : t.cpuCycles = s.cpuCycles
  nmiOut : t.ppu.nmiOut = s.ppu.nmiOut

theorem ppuRegRead_nmiOut (b : PpuBus) (r : BitVec 3) : (ppuRegRead b r).2.ppu.nmiOut = b.ppu.nmiOut := by
  rcases ppuRegRead_cases b r with ⟨-, e⟩ | ⟨-, e⟩ | e <;> rw [e] <;> rfl

/-- No PPU register takes an NMI request back once it is made (R205, R242). -/
theorem ppuRegWrite_nmiOut (b : PpuBus) (r : BitVec 3) (d : Byte) :
    (ppuRegWrite b r d).ppu.nmiOut = b.ppu.nmiOut := by
  have own : ∀ (c : Cart) (a : BitVec 14), (ppuOwnWrite b.ppu c a d).nmiOut = b.ppu.nmiOut := fun c a => by
    unfold ppuOwnWrite
    split_ifs <;> rfl
  have scroll : (writePpuScroll b.ppu d).nmiOut = b.ppu.nmiOut := by
    unfold writePpuScroll
    split <;> rfl
  have addr : (writePpuAddr b.ppu d).nmiOut = b.ppu.nmiOut := by
    unfold writePpuAddr
    split <;> rfl
  have data : (ppuWrite b (b.ppu.v.setWidth 14) d).ppu.nmiOut = b.ppu.nmiOut := by
    unfold ppuWrite
    dsimp only
    split
    · rfl
    · exact own _ _
  unfold ppuRegWrite
  split
  case h_5 => exact scroll
  case h_6 => exact addr
  case h_7 => exact data
  all_goals rfl

theorem memRead_nmiOut (s : State) (a : Word) : (memRead s a).2.ppu.nmiOut = s.ppu.nmiOut :=
  memRead_keeps (fun t => t.ppu.nmiOut = s.ppu.nmiOut) (fun _ _ h => h)
    (fun t r h => (ppuRegRead_nmiOut t.ppuBus r).trans h) (fun _ h => h) (fun _ h => h) (fun _ h => h) s a rfl

theorem memWrite_nmiOut (s : State) (a : Word) (v : Byte) : (memWrite s a v).ppu.nmiOut = s.ppu.nmiOut :=
  memWrite_keeps (fun t => t.ppu.nmiOut = s.ppu.nmiOut) (fun _ _ h => h) (fun _ _ _ _ h => h)
    (fun t r v h => (ppuRegWrite_nmiOut t.ppuBus r v).trans h) (fun _ _ _ h => h) (fun _ _ h => h) (fun _ _ h => h)
    s a v rfl

/-- The slot's work leaves time and the NMI request to the rest of the tick (R238). -/
theorem slotKeeps_untouched (s : State) : SlotKeeps (SlotUntouched s) where
  cpu _ _ _ h := ⟨h.tick, h.cpuCycles, h.nmiOut⟩
  read t a h := ⟨(memRead_tick t a).trans h.tick, (memRead_cpuCycles t a).trans h.cpuCycles,
    (memRead_nmiOut t a).trans h.nmiOut⟩
  write t a v h := ⟨(memWrite_tick t a v).trans h.tick, (memWrite_cpuCycles t a v).trans h.cpuCycles,
    (memWrite_nmiOut t a v).trans h.nmiOut⟩
  dma t h := dmaCycle_keeps (I := SlotUntouched s)
    (fun t a h => ⟨(memRead_tick t a).trans h.tick, (memRead_cpuCycles t a).trans h.cpuCycles,
      (memRead_nmiOut t a).trans h.nmiOut⟩)
    (fun _ _ h => ⟨h.tick, h.cpuCycles, h.nmiOut⟩) (fun _ _ h => ⟨h.tick, h.cpuCycles, h.nmiOut⟩) t h
  acknowledge t h := acknowledgeIrq_keeps (I := SlotUntouched s) (fun _ _ h => ⟨h.tick, h.cpuCycles, h.nmiOut⟩) t h

/-! ### Interrupt delivery -/

/-- A completed step, in its parts: the devices' clocks, on a CPU tick the counted slot, and the end of the tick
(R238). -/
theorem step_parts {s t : State} (e : step s = .next t) : ∃ u, t = endOfTick u ∧ u.tick = s.tick ∧
    u.cpuCycles = s.cpuCycles + (if isCpuTick s then 1 else 0) ∧ u.ppu.nmiOut = (clockDevices s).ppu.nmiOut := by
  unfold step clockTick at e
  split at e
  case isFalse => cases e
  unfold masterTick at e
  cases ht : isCpuTick s with
  | false =>
    rw [ht] at e
    injection e with e
    exact ⟨clockDevices s, e.symm, rfl, rfl, rfl⟩
  | true =>
    rw [ht] at e
    obtain ⟨w, hw, rfl⟩ := thenNext_next e
    obtain ⟨u, hu, rfl⟩ := (slotKeeps_untouched (clockDevices s)).cpuSlot ⟨rfl, rfl, rfl⟩ hw
    exact ⟨countSlot u, rfl, hu.tick, congrArg (· + 1) hu.cpuCycles, hu.nmiOut⟩

/-- The work of dot 1 of scanline 241 is the start of vertical blank alone (R192, R205). -/
theorem dotWork_vblank {b : PpuBus} (hline : b.ppu.scanline = 241) (hdot : b.ppu.dot = 1) :
    dotWork b = onPpu startVblank b := by
  have hrender : renderLine b.ppu = false := by simp only [renderLine, visibleLine, hline]; decide
  simp [dotWork, onlyIf, hline, hdot, hrender]

theorem advancePosition_nmiOut (p : Ppu) : (advancePosition p).nmiOut = p.nmiOut := by
  obtain ⟨n, m, o, e, -⟩ := advancePosition_eq p
  rw [e]

/-- The start of vertical blank with NMI enabled requests an NMI (R205). -/
theorem ppuClock_requestsNmi {b : PpuBus} (hline : b.ppu.scanline = 241) (hdot : b.ppu.dot = 1)
    (henabled : b.ppu.ctrl.getLsbD 7 = true) : (ppuClock b).ppu.nmiOut = true := by
  show (advancePosition (dotWork b).ppu).nmiOut = true
  rw [advancePosition_nmiOut, dotWork_vblank hline hdot]
  show (b.ppu.nmiOut || b.ppu.ctrl.getLsbD 7) = true
  rw [henabled, Bool.or_true]

/-- Settles O42: the slot leaves the request that the dot made, and the end of the tick delivers it. -/
theorem interruptDelivery : Obligations.InterruptDelivery := by
  intro s t e
  obtain ⟨u, rfl, htick, hcycles, hnmi⟩ := step_parts e
  refine ⟨by rw [endOfTick_ppu], by rw [endOfTick_cpu, endOfTick_apu, endOfTick_cart], fun hline hdot henabled => ?_,
    by rw [endOfTick_tick, htick], by rw [endOfTick_cpuCycles, hcycles]⟩
  have hrequest : u.ppu.nmiOut = true := hnmi.trans (ppuClock_requestsNmi (b := s.ppuBus) hline hdot henabled)
  simp only [endOfTick_cpu, hrequest, Bool.or_true]

/-! ### Waiting -/

@[simp] theorem dmaCycle_cpu (s : State) : (dmaCycle s).cpu = s.cpu := by
  rcases dmaCycle_cases s with e | ⟨a, e⟩ | e <;> rw [e]
  · rfl
  · exact memRead_cpu s a
  · rfl

@[simp] theorem dmaCycle_ram (s : State) : (dmaCycle s).ram = s.ram := by
  rcases dmaCycle_cases s with e | ⟨a, e⟩ | e <;> rw [e]
  · rfl
  · exact memRead_ram s a
  · rfl

/-- A tick that is not the CPU's (R238). -/
theorem step_off_slot {s : State} (hc : consistent s = true) (ht : isCpuTick s = false) :
    step s = .next (endOfTick (clockDevices s)) := by
  simp only [step, clockTick, masterTick, hc, ht, if_true, Bool.false_eq_true, if_false]

/-- A CPU tick whose slot the DMA engine uses (R239, R240). -/
theorem step_in_transfer {s : State} (hc : consistent s = true) (ht : isCpuTick s = true)
    (hd : s.dma.active = true) : step s = .next (endOfTick (countSlot (dmaCycle (clockDevices s)))) := by
  simp only [step, clockTick, masterTick, cpuSlot, thenNext, clockDevices_dma, hc, ht, hd, if_true]

/-- A CPU tick in the course of an instruction (R239). -/
theorem step_in_budget {s : State} (hc : consistent s = true) (ht : isCpuTick s = true) (hd : s.dma.active = false)
    (hb : s.cpu.budget ≠ 0) : step s = .next (endOfTick (countSlot (spendCycle (clockDevices s)))) := by
  simp only [step, clockTick, masterTick, cpuSlot, cpuCycle, thenNext, clockDevices_dma, clockDevices_cpu, hc, ht, hd,
    hb, if_true, Bool.false_eq_true, if_false]

/-- The end of a tick changes of the CPU its two interrupt inputs alone (R242, R243). -/
theorem endOfTick_cpu_of {u : State} {c : Cpu} (h : u.cpu = c) : (endOfTick u).cpu =
    { c with nmiPending := (endOfTick u).cpu.nmiPending, irqLine := (endOfTick u).cpu.irqLine } := by
  rw [endOfTick_cpu, h]

/-- Settles O41: in each of the three cases the tick is a chain of operations that leave the registers alone. -/
theorem cpuWaits : Obligations.CpuWaits := by
  intro s hc
  constructor
  · intro hwait
    cases ht : isCpuTick s with
    | false => exact ⟨_, step_off_slot hc ht, endOfTick_cpu_of rfl, endOfTick_ram _⟩
    | true =>
      have hd : s.dma.active = true := hwait.resolve_left (by rw [ht]; decide)
      exact ⟨_, step_in_transfer hc ht hd, endOfTick_cpu_of (dmaCycle_cpu (clockDevices s)),
        (endOfTick_ram _).trans (dmaCycle_ram (clockDevices s))⟩
  · intro ht hd hb
    exact ⟨_, step_in_budget hc ht hd hb, endOfTick_cpu_of rfl, endOfTick_ram _⟩

/-! ### The boundary -/

/-- Settles O39: each clause is one branch of the boundary, which the devices' clocks do not turn. -/
theorem boundaryPriority : Obligations.BoundaryPriority := by
  intro s hc ht hd hb
  have hstep := step_at_boundary hc ht hd hb
  refine ⟨fun hj => ?_, fun hj hn => ?_, fun hj hn hi hmask => ?_, fun hj hn hi hmask => ?_⟩ <;> rw [hstep]
  · have hidle : cpuBoundary (clockDevices s) = .next (clockDevices s) := by
      simp only [cpuBoundary, clockDevices_cpu, hj, if_true]
    rw [hidle]
    rfl
  · have hnmi : cpuBoundary (clockDevices s) = .next (nmiEntry (clockDevices s)) := by
      simp only [cpuBoundary, clockDevices_cpu, hj, hn, if_true, Bool.false_eq_true, if_false]
    rw [hnmi]
    rfl
  · have hirq : cpuBoundary (clockDevices s) = .next (irqEntry (clockDevices s)) := by
      simp only [cpuBoundary, clockDevices_cpu, hj, hn, hi, hmask, Bool.not_false, Bool.and_self, if_true,
        Bool.false_eq_true, if_false]
    rw [hirq]
    rfl
  · rw [cpuBoundary_fetches (s := clockDevices s) hj hn (.inr hmask)]

/-! ### The entries -/

/-- Pushes on a machine with another CPU (R14). -/
theorem afterPushes_setCpu (s : State) (c : Cpu) (sp : Byte) (bytes : List Byte) :
    afterPushes (s.setCpu c) sp bytes = (afterPushes s sp bytes).setCpu c := by
  induction bytes generalizing s sp with
  | nil => rfl
  | cons b bytes ih => simp only [afterPushes, memWrite_setCpu, ih]

/-- The reads of a vector on a machine with another CPU (R51). -/
theorem afterVector_setCpu (s : State) (c : Cpu) (a : Word) :
    afterVector (s.setCpu c) a = (afterVector s a).setCpu c := by
  simp only [afterVector, memRead_setCpu]

theorem vectorWord_setCpu (s : State) (c : Cpu) (a : Word) : vectorWord (s.setCpu c) a = vectorWord s a := by
  simp only [vectorWord, memRead_setCpu]

/-- The two reads of a vector are the word read there and the machine after it (R14, R51). -/
theorem read16_eq (s : State) (a : Word) : read16 s a = (vectorWord s a, afterVector s a) := rfl

/-- The NMI entry is the shared one, whose bus accesses do not look at the request it takes back (R255). -/
theorem nmiEntry_eq (s : State) :
    nmiEntry s = (enter s nmiVector s.cpu.pc (pushedByInterrupt s.cpu.p)).setNmiPending false := by
  rw [nmiEntry, setNmiPending_eq, enter_eq, enter_eq, afterPushes_setCpu, afterVector_setCpu, vectorWord_setCpu]
  rfl

/-- With MAPPER_IRQ_ACK = `level` an IRQ entry is the shared one (R243, R256). -/
theorem irqEntry_level {s : State} (h : s.params.mapperIrqAck = .level) :
    irqEntry s = enter s irqVector s.cpu.pc (pushedByInterrupt s.cpu.p) := by
  rw [irqEntry, acknowledgeIrq, h]

theorem EntryFrame.setNmiPending {s t : State} {a : Word} {bytes : List Byte} (h : EntryFrame s t a bytes)
    (b : Bool) : EntryFrame s (t.setNmiPending b) a bytes := by
  obtain ⟨honly, hmemory, hstack⟩ := h
  refine ⟨?_, hmemory.setCpu _, fun hlisted => StackHolds.setCpu _ _ (hstack hlisted)⟩
  rw [OnlyCpuChanged] at honly ⊢
  rw [honly]
  rfl

/-- Settles O40: what the shared entry does, with the status an interrupt pushes. -/
theorem interruptEntries : Obligations.InterruptEntries := by
  intro s
  refine ⟨⟨_, pushedStatus_pushedByInterrupt s.cpu.p, ?_⟩, fun hlevel =>
    ⟨_, pushedStatus_pushedByInterrupt s.cpu.p, ?_⟩⟩
  · have hcpu := enter_cpu s nmiVector s.cpu.pc (pushedByInterrupt s.cpu.p)
    have hp : (nmiEntry s).cpu.p = setFlag s.cpu.p .i true := by
      rw [nmiEntry_eq, State.setNmiPending_cpu_p, hcpu]
    rw [hp]
    refine ⟨?_, ?_, getFlag_setFlag_same s.cpu.p .i true, flagsKept_setFlag s.cpu.p .i true⟩
    · rw [nmiEntry_eq]
      exact (enter_entryFrame s nmiVector _ _).setNmiPending false
    · rw [nmiEntry_eq, setNmiPending_eq, setCpu_cpu, hcpu]
      rfl
  · have hcpu := enter_cpu s irqVector s.cpu.pc (pushedByInterrupt s.cpu.p)
    rw [irqEntry_level hlevel, congrArg Cpu.p hcpu]
    exact ⟨enter_entryFrame s irqVector _ _, hcpu, getFlag_setFlag_same s.cpu.p .i true,
      flagsKept_setFlag s.cpu.p .i true⟩

/-! ### Reset -/

/-- `Reset()`, said once: the two reads of the vector, and the new CPU (R257). -/
theorem resetEntry_eq (s : State) : resetEntry s = (afterVector s resetVector).setCpu { s.cpu with
    pc := vectorWord s resetVector
    sp := s.cpu.sp - 3
    p := setFlag s.cpu.p .i true
    nmiPending := false
    jammed := false
    budget := 7 } := by
  have hcpu : (afterVector s resetVector).cpu = s.cpu := read16_cpu s resetVector
  simp only [resetEntry, read16_eq, hcpu]

/-- Settles O44: the entry's equation, the frame of two reads, and the branch of the soft reset. -/
theorem resetEntryEffects : Obligations.ResetEntryEffects := by
  intro s
  obtain ⟨hsame, hmemory⟩ := readPair_frame s resetVector (resetVector + 1)
  refine ⟨?_, fun hscope => ?_⟩
  · rw [resetEntry_eq]
    exact ⟨rfl, getFlag_setFlag_same s.cpu.p .i true, flagsKept_setFlag s.cpu.p .i true, rfl, hsame,
      hmemory.setCpu _⟩
  · simp only [softReset, hscope]

/-- Settles O50: the power-on memories are empty and the power-on units all 0 but the LFSR. -/
theorem resetHasInvariants : Obligations.ResetHasInvariants := by
  have hconsistent : consistent State.reset = true := by decide
  refine ⟨hconsistent, by decide, ?_, rfl, fun n => ?_, ⟨rfl, rfl, rfl⟩,
    ⟨fun _ => rfl, fun _ => rfl, fun _ => rfl, fun _ => rfl⟩, by decide, hconsistent, rfl, rfl⟩
  · exact statusFixed_setFlag 0x20#8 .i true (by decide) (by decide) ⟨rfl, rfl⟩
  · show Memory.load [] (4 * n + 2) &&& 0x1C#8 = 0
    rw [Memory.load_nil]
    rfl

end Sys2Proof.Machine

/-! The device registers below $8000 through the bus, with a cartridge whose contents are listed, and the PPU's among
them (O53 to O55; spec/20_memory.md R45, spec/47_ppu.md R187-R193, R207). Such a cartridge claims nothing there, so an
access is the register's own effect; two $2005 writes are one new `t`, two $2006 writes one new `t` and `v`, each
given by its fields. -/

namespace Sys2Proof.Machine

/-! ### Repetition -/

/-- The statements' repetition is the library's iteration. -/
theorem repeated_eq_iterate {α : Type} (f : α → α) (n : Nat) (x : α) : repeated f n x = f^[n] x := by
  induction n generalizing x with
  | zero => rfl
  | succ n ih => exact ih (f x)

theorem repeated_add {α : Type} (f : α → α) (m n : Nat) (x : α) :
    repeated f (m + n) x = repeated f n (repeated f m x) := by
  simp only [repeated_eq_iterate, Nat.add_comm m n, Function.iterate_add_apply]

theorem repeated_succ {α : Type} (f : α → α) (n : Nat) (x : α) : repeated f (n + 1) x = f (repeated f n x) := by
  simp only [repeated_eq_iterate, Function.iterate_succ_apply']

/-! ### Registers below the cartridge's space -/

/-- A cartridge whose contents are listed claims no CPU read below $8000 (R49, R50). -/
theorem cartCpuRead_register {c : Cart} (h : ∀ cs, c ≠ .custom cs) {a : Word} (ha : a.toNat < 0x8000) :
    cartCpuRead c a = (none, c) := by
  cases c with
  | absent => rfl
  | board m =>
    have unclaimed : boardClaimsCpu a = false := decide_eq_false (by omega)
    simp only [cartCpuRead, unclaimed, Bool.false_eq_true, if_false]
  | custom cs => exact absurd rfl (h cs)

theorem cartCpuWrite_register {c : Cart} (h : ∀ cs, c ≠ .custom cs) {a : Word} (ha : a.toNat < 0x8000) (v : Byte) :
    cartCpuWrite c a v = (false, c) := by
  cases c with
  | absent => rfl
  | board m =>
    have unclaimed : boardClaimsCpu a = false := decide_eq_false (by omega)
    simp only [cartCpuWrite, unclaimed]
  | custom cs => exact absurd rfl (h cs)

/-- The core answers a read below $8000 (R45, R46). -/
theorem memRead_register {s : State} (h : ∀ cs, s.cart ≠ .custom cs) {a : Word} (ha : a.toNat < 0x8000) :
    memRead s a = (ownValue s a, ownReadEffect s a) := by
  rw [memRead, cartCpuRead_register h ha]
  rfl

/-- The core takes a write below $8000 (R45, R48). -/
theorem memWrite_register {s : State} (h : ∀ cs, s.cart ≠ .custom cs) {a : Word} (ha : a.toNat < 0x8000) (v : Byte) :
    memWrite s a v = ownWrite s a v := by
  rw [memWrite, cartCpuWrite_register h ha]
  rfl

section
variable {s : State} (h : ∀ cs, s.cart ≠ .custom cs)
include h

theorem memWrite_ppuScroll (d : Byte) :
    memWrite s 0x2005#16 d = s.setPpuBus { s.ppuBus with ppu := writePpuScroll s.ppu d } :=
  memWrite_register h (by decide) d

theorem memWrite_ppuAddr (d : Byte) :
    memWrite s 0x2006#16 d = s.setPpuBus { s.ppuBus with ppu := writePpuAddr s.ppu d } :=
  memWrite_register h (by decide) d

theorem memWrite_ppuData (d : Byte) : memWrite s 0x2007#16 d = s.setPpuBus (writePpuData s.ppuBus d) :=
  memWrite_register h (by decide) d

theorem memRead_ppuData : memRead s 0x2007#16 = (dataValue s.ppu, s.setPpuBus (dataRefilled s.ppuBus)) :=
  memRead_register h (by decide)

end

/-! ### The scroll -/

/-- The 15-bit word with the scroll bytes `d1` (X) and `d2` (Y) in it, and the nametable bits of `t`: fine Y, nametable,
coarse Y, coarse X from the top bit down (R187). -/
def scrollWord (t : BitVec 15) (d1 d2 : Byte) : BitVec 15 :=
  d2.extractLsb' 0 3 ++ t.extractLsb' 10 2 ++ d2.extractLsb' 3 5 ++ d1.extractLsb' 3 5

theorem toNat_append_eq {m n : Nat} (x : BitVec m) (y : BitVec n) : (x ++ y).toNat = 2 ^ n * x.toNat + y.toNat := by
  rw [BitVec.toNat_append, ← Nat.shiftLeft_add_eq_or_of_lt y.isLt, Nat.shiftLeft_eq, Nat.mul_comm]

theorem scrollWord_toNat (t : BitVec 15) (d1 d2 : Byte) : (scrollWord t d1 d2).toNat =
    4096 * (d2.toNat % 8) + 1024 * (t.toNat / 1024 % 4) + 32 * (d2.toNat / 8) + d1.toNat / 8 := by
  have h1 := d1.isLt
  have h2 := d2.isLt
  simp only [scrollWord, toNat_append_eq, BitVec.extractLsb'_toNat, Nat.shiftRight_eq_div_pow]
  omega

/-- The four fields of a scroll word, read off its number (R29). -/
theorem scroll_fields (fineY : Nat) {table coarseY coarseX n : Nat} (htable : table < 4) (hY : coarseY < 32)
    (hX : coarseX < 32) (hn : n = 4096 * fineY + 1024 * table + 32 * coarseY + coarseX) :
    n % 32 = coarseX ∧ n / 32 % 32 = coarseY ∧ n / 4096 = fineY ∧ n / 1024 % 4 = table := by
  omega

/-- The two masked writes of `t` put each field in its place (R187). -/
theorem scrollWord_eq (t : BitVec 15) (d1 d2 : Byte) :
    ((t &&& ~~~0x001F#15 ||| (d1 >>> 3).setWidth 15) &&& ~~~0x73E0#15) ||| ((d2 &&& 7#8).setWidth 15 <<< 12) |||
      ((d2 >>> 3).setWidth 15 <<< 5) = scrollWord t d1 d2 := by
  apply BitVec.eq_of_getLsbD_eq
  intro i hi
  simp only [scrollWord, BitVec.getLsbD_append, BitVec.getLsbD_extractLsb', BitVec.getLsbD_or, BitVec.getLsbD_and,
    BitVec.getLsbD_not, BitVec.getLsbD_shiftLeft, BitVec.getLsbD_ushiftRight, BitVec.getLsbD_setWidth]
  interval_cases i <;> simp

/-- The PPU after two $2005 writes that start with the latch clear (R187). -/
theorem writePpuScroll_twice {p : Ppu} (hw : p.w = false) (d1 d2 : Byte) :
    writePpuScroll (writePpuScroll p d1) d2 =
      { p with t := scrollWord p.t d1 d2, x := d1.setWidth 3, w := false } := by
  rw [← scrollWord_eq]
  simp only [writePpuScroll, hw, if_true, Bool.false_eq_true, if_false]

theorem memWrite_scroll_twice {s : State} (h : ∀ cs, s.cart ≠ .custom cs) (hw : s.ppu.w = false) (d1 d2 : Byte) :
    memWrite (memWrite s 0x2005#16 d1) 0x2005#16 d2 = s.setPpuBus { s.ppuBus with
      ppu := { s.ppu with t := scrollWord s.ppu.t d1 d2, x := d1.setWidth 3, w := false } } := by
  rw [memWrite_ppuScroll h, memWrite_ppuScroll, ← writePpuScroll_twice hw]
  · rfl
  · exact h

/-! ### The address -/

/-- The PPU address of two $2006 bytes: bits 5:0 of the first one above the second (R188). -/
def vramAddress (hi lo : Byte) : BitVec 15 := (hi.setWidth 6).setWidth 7 ++ lo

theorem vramAddress_toNat (hi lo : Byte) : (vramAddress hi lo).toNat = 256 * (hi.toNat % 64) + lo.toNat := by
  simp only [vramAddress, toNat_append_eq, BitVec.toNat_setWidth]
  omega

theorem vramAddress_eq (t : BitVec 15) (hi lo : Byte) :
    ((t &&& 0x00FF#15 ||| ((hi &&& 0x3F#8).setWidth 15 <<< 8)) &&& 0x7F00#15) ||| lo.setWidth 15 =
      vramAddress hi lo := by
  apply BitVec.eq_of_getLsbD_eq
  intro i hi
  simp only [vramAddress, BitVec.getLsbD_append, BitVec.getLsbD_or, BitVec.getLsbD_and, BitVec.getLsbD_shiftLeft,
    BitVec.getLsbD_setWidth]
  interval_cases i <;> simp

/-- The PPU after two $2006 writes that start with the latch clear (R188). -/
def addressed (p : Ppu) (hi lo : Byte) : Ppu :=
  { p with t := vramAddress hi lo, v := vramAddress hi lo, w := false }

theorem writePpuAddr_twice {p : Ppu} (hw : p.w = false) (hi lo : Byte) :
    writePpuAddr (writePpuAddr p hi) lo = addressed p hi lo := by
  rw [addressed, ← vramAddress_eq p.t]
  simp only [writePpuAddr, hw, if_true, Bool.false_eq_true, if_false]

theorem memWrite_address_twice {s : State} (h : ∀ cs, s.cart ≠ .custom cs) (hw : s.ppu.w = false) (hi lo : Byte) :
    memWrite (memWrite s 0x2006#16 hi) 0x2006#16 lo = s.setPpuBus { s.ppuBus with ppu := addressed s.ppu hi lo } := by
  rw [memWrite_ppuAddr h, memWrite_ppuAddr, ← writePpuAddr_twice hw]
  · rfl
  · exact h

/-- Settles O53: the fields of `scrollWord` and of `vramAddress`. -/
theorem scrollAndAddressWrites : Obligations.ScrollAndAddressWrites := by
  intro s d1 d2 hlisted hw
  refine ⟨⟨_, rfl, ?_⟩, _, rfl, ?_⟩
  · rw [memWrite_scroll_twice hlisted hw]
    have h1 := d1.isLt
    have h2 := d2.isLt
    exact ⟨rfl, rfl, BitVec.toNat_setWidth 3 d1,
      scroll_fields (d2.toNat % 8) (Nat.mod_lt _ (by decide)) (by omega) (by omega)
        (scrollWord_toNat s.ppu.t d1 d2)⟩
  · rw [memWrite_address_twice hlisted hw]
    exact ⟨rfl, rfl, vramAddress_toNat d1 d2⟩

/-! ### The nametables through $2007 -/

/-- `v` points at a nametable byte, $2000-$3EFF (R175). -/
def PointsAtNametable (p : Ppu) : Prop := 0x2000 ≤ (p.v.setWidth 14).toNat ∧ (p.v.setWidth 14).toNat < 0x3F00

/-- The nametable byte `v` points at (R177). -/
def pointedKey (b : PpuBus) : Nat := nametableKey b.cart (b.ppu.v.setWidth 14)

/-- A cartridge whose contents are listed claims no nametable access (R50). -/
theorem cartPpuRead_nametable {c : Cart} (h : ∀ cs, c ≠ .custom cs) {a : BitVec 14} (ha : 0x2000 ≤ a.toNat) :
    cartPpuRead c a = (none, c) := by
  cases c with
  | absent => rfl
  | board m =>
    have unclaimed : boardClaimsPpu a = false := decide_eq_false (by omega)
    simp only [cartPpuRead, unclaimed, Bool.false_eq_true, if_false]
  | custom cs => exact absurd rfl (h cs)

theorem cartPpuWrite_nametable {c : Cart} (h : ∀ cs, c ≠ .custom cs) {a : BitVec 14} (ha : 0x2000 ≤ a.toNat)
    (d : Byte) : cartPpuWrite c a d = (false, c) := by
  cases c with
  | absent => rfl
  | board m =>
    have unclaimed : boardClaimsPpu a = false := decide_eq_false (by omega)
    simp only [cartPpuWrite, unclaimed, Bool.false_eq_true, if_false]
  | custom cs => exact absurd rfl (h cs)

section
variable {b : PpuBus} (h : ∀ cs, b.cart ≠ .custom cs) (hv : PointsAtNametable b.ppu)
include h hv

/-- A $2007 write to a nametable (R176, R189). -/
theorem writePpuData_nametable (d : Byte) : writePpuData b d = { b with
    ppu := { b.ppu with nt := Memory.store b.ppu.nt (pointedKey b) d, v := b.ppu.v + vramIncrement b.ppu } } := by
  have notPattern : ¬ (b.ppu.v.setWidth 14).toNat < 0x2000 := Nat.not_lt.mpr hv.1
  simp only [writePpuData, ppuWrite, cartPpuWrite_nametable h hv.1, ppuOwnWrite, notPattern, hv.2, if_true, if_false,
    Bool.false_eq_true]
  rfl

/-- A $2007 read of a nametable refills the buffer from it (R175, R190). -/
theorem dataRefilled_nametable : dataRefilled b = { b with
    ppu := { b.ppu with
      readBuffer := Memory.load b.ppu.nt (pointedKey b)
      v := b.ppu.v + vramIncrement b.ppu } } := by
  have notPattern : ¬ (b.ppu.v.setWidth 14).toNat < 0x2000 := Nat.not_lt.mpr hv.1
  simp only [dataRefilled, ppuRead, refillAddress, hv.2, if_true, cartPpuRead_nametable h hv.1, Option.getD_none,
    ppuOwnRead, notPattern, if_false]
  rfl

end

/-- A $2007 read of a nametable gives the buffer (R190). -/
theorem dataValue_nametable {p : Ppu} (h : (p.v.setWidth 14).toNat < 0x3F00) : dataValue p = p.readBuffer := by
  simp only [dataValue, h, if_true]

/-- An address of $2000-$3DFF, in the 14 bits of a PPU address (R174). -/
theorem vramAddress_setWidth_toNat (hi lo : Byte) :
    ((vramAddress hi lo).setWidth 14).toNat = 256 * (hi.toNat % 64) + lo.toNat := by
  have hlo := lo.isLt
  rw [BitVec.toNat_setWidth, vramAddress_toNat]
  omega

theorem addressed_pointsAtNametable (p : Ppu) {hi : Byte} (lo : Byte) (hmin : 0x20 ≤ hi.toNat % 64)
    (hmax : hi.toNat % 64 < 0x3E) : PointsAtNametable (addressed p hi lo) := by
  have ha := vramAddress_setWidth_toNat hi lo
  have hlo := lo.isLt
  simp only [PointsAtNametable, addressed, ha]
  omega

/-- After one access the address still lies below the palette (R189). -/
theorem addressed_next_lt (p : Ppu) {hi : Byte} (lo : Byte) (hmax : hi.toNat % 64 < 0x3E) :
    ((vramAddress hi lo + vramIncrement p).setWidth 14).toNat < 0x3F00 := by
  have ha := vramAddress_toNat hi lo
  have hlo := lo.isLt
  have hstep : (vramIncrement p).toNat ≤ 32 := by
    unfold vramIncrement
    split <;> decide
  rw [BitVec.toNat_setWidth, BitVec.toNat_add, ha]
  omega

/-- Two $2007 reads in a row from below the palette: the buffer, then the byte the first one moved into it (R190). -/
theorem memRead_ppuData_twice {s : State} (h : ∀ cs, s.cart ≠ .custom cs) (hv : PointsAtNametable s.ppu)
    (hnext : ((s.ppu.v + vramIncrement s.ppu).setWidth 14).toNat < 0x3F00) :
    (memRead s 0x2007#16).1 = s.ppu.readBuffer ∧
    (memRead (memRead s 0x2007#16).2 0x2007#16).1 = Memory.load s.ppu.nt (pointedKey s.ppuBus) := by
  rw [memRead_ppuData h]
  refine ⟨dataValue_nametable hv.2, ?_⟩
  rw [dataRefilled_nametable (b := s.ppuBus) h hv, memRead_ppuData]
  · exact dataValue_nametable hnext
  · exact h

/-- An address set and a byte written through $2007: the byte stands there, and the buffer and the latch are as before
(R188, R189). -/
theorem memWrite_ppuData_at {s : State} (h : ∀ cs, s.cart ≠ .custom cs) (hw : s.ppu.w = false) {hi : Byte}
    (lo d : Byte) (hmin : 0x20 ≤ hi.toNat % 64) (hmax : hi.toNat % 64 < 0x3E) :
    ∃ p, memWrite (memWrite (memWrite s 0x2006#16 hi) 0x2006#16 lo) 0x2007#16 d = s.setPpuBus ⟨p, s.cart⟩ ∧
      p.w = false ∧ p.readBuffer = s.ppu.readBuffer ∧
      Memory.load p.nt (nametableKey s.cart ((vramAddress hi lo).setWidth 14)) = d := by
  rw [memWrite_address_twice h hw, memWrite_ppuData, writePpuData_nametable]
  · exact ⟨_, rfl, rfl, rfl, Memory.load_store_same _ _ d⟩
  · exact h
  · exact addressed_pointsAtNametable s.ppu lo hmin hmax
  · exact h

/-- Settles O54: the write stores at the byte the address points at, the first read moves it into the buffer, and the
second read, still below the palette, gives the buffer. -/
theorem vramReadsBack : Obligations.VramReadsBack := by
  rintro s t hi lo d hlisted hw hmin hmax rfl
  obtain ⟨p, hwritten, hlatch, hbuffer, hstored⟩ := memWrite_ppuData_at hlisted hw lo d hmin hmax
  rw [hwritten, memWrite_address_twice (s := s.setPpuBus ⟨p, s.cart⟩) hlisted hlatch]
  obtain ⟨hfirst, hsecond⟩ := memRead_ppuData_twice
    (s := (s.setPpuBus ⟨p, s.cart⟩).setPpuBus ⟨addressed p hi lo, s.cart⟩) hlisted
    (addressed_pointsAtNametable p lo hmin hmax) (addressed_next_lt (addressed p hi lo) lo hmax)
  exact ⟨hsecond.trans hstored, hfirst.trans hbuffer⟩

/-! ### The position -/

/-- The number of a position in its frame (R193). -/
def Ppu.position (p : Ppu) : Nat := 341 * p.scanline + p.dot

/-- The position lies in the frame, and rendering is off (R30, R191). -/
structure Ppu.Idle (p : Ppu) : Prop where
  rendering : rendering p = false
  scanline : p.scanline ≤ 261
  dot : p.dot ≤ 340

/-- With rendering off no dot is skipped: the position moves on by one, modulo a frame (R193, R207). -/
theorem advancePosition_idle {p : Ppu} (h : p.Idle) :
    (advancePosition p).Idle ∧ (advancePosition p).position = (p.position + 1) % 89342 := by
  obtain ⟨hoff, hline, hdot⟩ := h
  unfold advancePosition
  rw [if_neg (by rw [hoff]; rintro ⟨-, -, -, hon⟩; cases hon)]
  split
  · split
    · exact ⟨⟨hoff, Nat.zero_le _, Nat.zero_le _⟩, by simp only [Ppu.position]; omega⟩
    · exact ⟨⟨hoff, by dsimp only; omega, Nat.zero_le _⟩, by simp only [Ppu.position]; omega⟩
  · exact ⟨⟨hoff, hline, by dsimp only; omega⟩, by simp only [Ppu.position]; omega⟩

theorem ppuClock_idle {b : PpuBus} (h : b.ppu.Idle) :
    (ppuClock b).ppu.Idle ∧ (ppuClock b).ppu.position = (b.ppu.position + 1) % 89342 := by
  have hsame := dotWork_same b
  have hidle : (dotWork b).ppu.Idle := by
    refine ⟨?_, hsame.scanline ▸ h.scanline, hsame.dot ▸ h.dot⟩
    rw [rendering, hsame.mask]
    exact h.rendering
  have hposition : (dotWork b).ppu.position = b.ppu.position := by
    rw [Ppu.position, hsame.scanline, hsame.dot, Ppu.position]
  rw [← hposition]
  exact advancePosition_idle hidle

/-- Settles O55, by induction on the number of dots. -/
theorem ppuPositionCounts : Obligations.PpuPositionCounts := by
  have count : ∀ (k : Nat) (b : PpuBus), b.ppu.Idle → (repeated ppuClock k b).ppu.Idle ∧
      (repeated ppuClock k b).ppu.position = (b.ppu.position + k) % 89342 := by
    intro k
    induction k with
    | zero =>
      intro b h
      have hline := h.scanline
      have hdot := h.dot
      exact ⟨h, show b.ppu.position = _ from (Nat.mod_eq_of_lt (by simp only [Ppu.position]; omega)).symm⟩
    | succ k ih =>
      intro b h
      obtain ⟨hnext, hposition⟩ := ppuClock_idle h
      obtain ⟨hidle, hcount⟩ := ih (ppuClock b) hnext
      refine ⟨hidle, hcount.trans ?_⟩
      rw [hposition]
      omega
  intro k b hoff hline hdot
  obtain ⟨hidle, hcount⟩ := count k b ⟨hoff, hline, hdot⟩
  exact ⟨hidle.dot, hcount⟩

end Sys2Proof.Machine

/-! The APU (O56 to O59; spec/48_apu.md R208, R210, R211, R219, R225, R231, R232, R234-R236): a divider's pulses and the
frame IRQ by induction on the clocks, the channel enables through the bus, and the samples of silence and of one
pulse. -/

namespace Sys2Proof.Machine

/-! ### Dividers -/

/-- A divider pulses at a clock that finds its counter at 0 (R208). -/
theorem Divider.clock_pulses {w : Nat} (d : Divider w) : d.clock.1 = decide (d.counter.toNat = 0) := by
  unfold Divider.clock
  split
  case isTrue h => simp [h]
  case isFalse h => exact (decide_eq_false fun h0 => h (BitVec.eq_of_toNat_eq h0)).symm

/-- A divider counts down, and from 0 starts again at its period (R208). -/
theorem Divider.clock_counter {w : Nat} (d : Divider w) :
    d.clock.2.counter.toNat = if d.counter.toNat = 0 then d.period.toNat else d.counter.toNat - 1 := by
  unfold Divider.clock
  split
  case isTrue h => simp [h]
  case isFalse h =>
    have hpos : d.counter.toNat ≠ 0 := fun h0 => h (BitVec.eq_of_toNat_eq h0)
    have hlt := d.counter.isLt
    have hone : 1 % 2 ^ w = 1 := Nat.mod_eq_of_lt (by omega)
    rw [if_neg hpos]
    show (d.counter - 1#w).toNat = _
    rw [BitVec.toNat_sub_of_le (by rw [BitVec.le_def, BitVec.toNat_ofNat, hone]; omega), BitVec.toNat_ofNat, hone]

/-- From a counter `c` with period `p`, clock `j` is `c` clocks and a number of whole periods on: one clock back. -/
theorem pulse_clock_succ (c p j : Nat) :
    ((if c = 0 then p else c - 1) ≤ j ∧ (j - if c = 0 then p else c - 1) % (p + 1) = 0) ↔
      (c ≤ j + 1 ∧ (j + 1 - c) % (p + 1) = 0) := by
  split
  case isTrue h =>
    subst h
    rw [Nat.sub_zero]
    constructor
    · rintro ⟨hle, hmod⟩
      refine ⟨Nat.zero_le _, ?_⟩
      rw [show j + 1 = (j - p) + (p + 1) by omega, Nat.add_mod_right, hmod]
    · rintro ⟨-, hmod⟩
      have hle : p + 1 ≤ j + 1 := Nat.le_of_dvd (Nat.succ_pos j) (Nat.dvd_of_mod_eq_zero hmod)
      refine ⟨Nat.le_of_succ_le_succ hle, ?_⟩
      rwa [show j + 1 = (j - p) + (p + 1) by omega, Nat.add_mod_right] at hmod
  case isFalse h =>
    rw [show j - (c - 1) = j + 1 - c by omega, show c - 1 ≤ j ↔ c ≤ j + 1 by omega]

/-- Settles O56, by induction on the clock's number, the divider being any. -/
theorem dividerPulses : Obligations.DividerPulses := by
  intro w d j
  induction j generalizing d with
  | zero =>
    show d.clock.1 = _
    rw [Divider.clock_pulses]
    apply decide_eq_decide.mpr
    constructor
    · intro h
      rw [h]
      exact ⟨Nat.le_refl 0, Nat.zero_mod _⟩
    · rintro ⟨h, -⟩
      exact Nat.le_zero.mp h
  | succ j ih =>
    rw [repeated, ih, Divider.clock_counter, Divider.clock_period]
    exact decide_eq_decide.mpr (pulse_clock_succ _ _ j)

/-! ### The frame IRQ -/

/-- The frame counter counts for itself, whatever it clocks (R219). -/
theorem repeated_frameCycle_frame (k : Nat) (a : Apu) :
    (repeated frameCycle k a).frame = repeated FrameCounter.advance k a.frame := by
  induction k generalizing a with
  | zero => rfl
  | succ k ih => rw [repeated, ih, frameCycle_frame, repeated]

/-- The frame counter after `k` cycles of a fresh 4-step sequence with the IRQ enabled (R219). -/
def FrameCounter.fourStepAt (k : Nat) : FrameCounter where
  cpuCycleCounter := k % 29830
  numSteps := .fourStep
  inhibitInterrupt := false
  irqPending := decide (29828 ≤ k)

theorem FrameCounter.advance_fourStepAt {k : Nat} (h : k < 29830) : (fourStepAt k).advance = fourStepAt (k + 1) := by
  have hcount : k % 29830 = k := Nat.mod_eq_of_lt h
  have hnext : (if k + 1 = 29830 then 0 else k + 1) = (k + 1) % 29830 := by
    split <;> omega
  have hirq : (decide (29828 ≤ k) || (setsIrq .fourStep (k + 1) && !false)) = decide (29828 ≤ k + 1) := by
    rw [Bool.eq_iff_iff]
    simp only [setsIrq, Bool.not_false, Bool.and_true, Bool.or_eq_true, decide_eq_true_eq, beq_iff_eq]
    omega
  simp only [advance, fourStepAt, hcount, sequenceLength, hnext, hirq]

theorem FrameCounter.repeated_advance_fourStepAt {k : Nat} (h : k ≤ 29830) :
    repeated advance k (fourStepAt 0) = fourStepAt k := by
  induction k with
  | zero => rfl
  | succ k ih => rw [repeated_succ, ih (Nat.le_of_lt h), advance_fourStepAt h]

/-- Settles O57: the frame counter after `k` cycles is `fourStepAt k`. -/
theorem frameIrqTiming : Obligations.FrameIrqTiming := by
  intro a k hmode hinhibit hirq hcount hk
  have hfresh : a.frame = FrameCounter.fourStepAt 0 := by
    cases hf : a.frame
    simp only [hf] at hmode hinhibit hirq hcount
    subst hmode hinhibit hirq hcount
    rfl
  rw [repeated_frameCycle_frame, hfresh, FrameCounter.repeated_advance_fourStepAt hk]
  exact ⟨rfl, rfl⟩

/-! ### The channel enables -/

/-- Every entry of the length table is a byte and not 0 (R210). -/
theorem lengthEntry_spec : ∀ i : BitVec 5,
    (lengthEntry i).toNat = lengthTable.getD i.toNat 0 ∧ lengthEntry i ≠ 0 := by decide

theorem lengthIndex_toNat (e : Byte) : (lengthIndex e).toNat = e.toNat / 8 := by
  have he := e.isLt
  simp only [lengthIndex, BitVec.toNat_setWidth, BitVec.toNat_ushiftRight, Nat.shiftRight_eq_div_pow]
  omega

/-- A length counter just enabled takes a load; just disabled, it is 0 and stays so (R211). -/
theorem LengthCounter.load_setEnabled (l : LengthCounter) (enabled : Bool) (i : BitVec 5) :
    ((l.setEnabled enabled).load i).counter = if enabled then lengthEntry i else 0 := by
  cases enabled <;> rfl

/-- Bit 0 of the status says whether pulse 1's length counter runs (R232). -/
theorem apuStatus_pulse1 (a : Apu) : (apuStatus a).getLsbD 0 = (a.pulse1.length.counter != 0) := by
  have hbit (on : Bool) (bit : Byte) : (statusBit on bit).getLsbD 0 = (on && bit.getLsbD 0) := by
    cases on <;> simp [statusBit]
  simp only [apuStatus, BitVec.getLsbD_or, hbit]
  simp

/-- With no length counter running the status shows the frame IRQ alone (R232). -/
theorem apuStatus_silent {a : Apu} (h1 : a.pulse1.length.counter = 0) (h2 : a.pulse2.length.counter = 0)
    (ht : a.triangle.length.counter = 0) (hn : a.noise.length.counter = 0) :
    apuStatus a = if a.frame.irqPending then 0x40#8 else 0 := by
  simp only [apuStatus, h1, h2, ht, hn]
  cases a.frame.irqPending <;> rfl

section
variable {s : State} (h : ∀ cs, s.cart ≠ .custom cs)
include h

theorem memRead_apuStatus : memRead s 0x4015#16 = (apuStatus s.apu, s.setApu (clearFrameIrq s.apu)) :=
  memRead_register h (by decide)

/-- A $4015 write and then a $4003 write, on the APU alone (R225, R231). -/
theorem memWrite_enables_pulse1Length (d e : Byte) : memWrite (memWrite s 0x4015#16 d) 0x4003#16 e =
    s.setApu (apuRegWrite (writeEnables s.apu d) 3 e) := by
  have henables : memWrite s 0x4015#16 d = s.setApu (writeEnables s.apu d) := memWrite_register h (by decide) d
  rw [henables]
  exact memWrite_register (s := s.setApu (writeEnables s.apu d)) h (by decide) e

end

/-- Pulse 1's length counter after the two writes (R211, R225, R231). -/
theorem writeEnables_pulse1Length (a : Apu) (d e : Byte) :
    (apuRegWrite (writeEnables a d) 3 e).pulse1.length.counter =
      if d.getLsbD 0 then lengthEntry (lengthIndex e) else 0 :=
  LengthCounter.load_setEnabled a.pulse1.length (d.getLsbD 0) (lengthIndex e)

/-- Settles O58: each clause reads one length counter or the status after the two writes. -/
theorem channelEnables : Obligations.ChannelEnables := by
  intro s d e hlisted
  have hstatus (a : Apu) : (memRead (s.setApu a) 0x4015#16).1 = apuStatus a := by
    rw [memRead_apuStatus (s := s.setApu a) hlisted]
    rfl
  refine ⟨?_, ?_, fun hd => ?_⟩
  · rw [memRead_apuStatus hlisted]
    rfl
  · rw [memWrite_enables_pulse1Length hlisted, hstatus, apuStatus_silent] <;> rfl
  · obtain ⟨hload, hnonzero⟩ := lengthEntry_spec (lengthIndex e)
    have hcounter := writeEnables_pulse1Length s.apu d e
    rw [hd, if_pos rfl] at hcounter
    rw [memWrite_enables_pulse1Length hlisted, hstatus, apuStatus_pulse1, State.setApu_apu, hcounter, hload,
      lengthIndex_toNat]
    exact ⟨rfl, bne_iff_ne.mpr hnonzero⟩

/-! ### The mixer -/

theorem Pulse.value_silent {c : Pulse} (h : c.length.counter = 0) : c.value = 0 := if_pos (.inl h)

theorem Triangle.value_silent {c : Triangle} (h : c.length.counter = 0) : c.value = 0 := if_pos (.inl h)

theorem Noise.value_silent {c : Noise} (h : c.length.counter = 0) : c.value = 0 := if_pos (.inl h)

/-- Silence is the lowest sample in both mix modes (R234, R235, R236). -/
theorem sampleInt_silent (mode : MixMode) : sampleInt mode 0 0 0 0 = -32768 := by
  cases mode <;> rfl

/-- The spec's example: pulse 1 at 15, alone, in the table mode (R234, R236). -/
theorem sampleInt_onePulse : sampleInt .table 15 0 0 0 = -23015 := rfl

/-- Settles O59: a channel whose length counter is 0 has the value 0, and the samples of the values are computed. -/
theorem mixerSamples : Obligations.MixerSamples := by
  intro k a
  constructor
  · intro h1 h2 ht hn
    rw [currentSample, Pulse.value_silent h1, Pulse.value_silent h2, Triangle.value_silent ht, Noise.value_silent hn,
      sampleInt_silent]
    rfl
  · intro h1 h2 ht hn
    rw [currentSample, h1, h2, ht, hn, sampleInt_onePulse]
    rfl

end Sys2Proof.Machine

/-! OAM DMA and the controller ports (O43, O60; spec/49_bus_dma_io.md R240, R241, R244-R246). A transfer is its wait
cycles and then 256 pairs of cycles, each of which copies one byte: `CopiedUpTo` says what stands after some of
the pairs. Reads of a port after a strobe shift its register: `afterStrobe` says what is left in it. -/

namespace Sys2Proof.Machine

/-! ### The cycles of a transfer -/

/-- A $4014 write with a cartridge whose contents are listed (R240). -/
theorem memWrite_oamDma {s : State} (h : ∀ cs, s.cart ≠ .custom cs) (page : Byte) :
    memWrite s 0x4014#16 page = s.setDma (startDma s.dma s.cpuCycles page) := memWrite_register h (by decide) page

theorem startDma_wait (m : Dma) (slot : Nat) (d : Byte) : (startDma m slot d).wait = 1 + (slot + 1) % 2 := rfl

/-- Masking an OAM byte twice is masking it once (R34). -/
theorem oamMask_idem (index : Nat) (d : Byte) : oamMask index (oamMask index d) = oamMask index d := by
  unfold oamMask
  split
  · rw [BitVec.and_assoc]
    rfl
  · rfl

/-- A wait cycle (R241). -/
theorem dmaCycle_wait {s : State} (h : 0 < s.dma.wait) :
    dmaCycle s = s.setDma { s.dma with wait := s.dma.wait - 1 } := by
  rw [dmaCycle, if_pos h]

/-- A read cycle whose byte lies in plain memory (R241). -/
theorem dmaCycle_read {s : State} (hwait : s.dma.wait = 0) (hphase : s.dma.phase = .read)
    (hplain : PlainAddress s (wordOf s.dma.page (BitVec.ofNat 8 s.dma.index))) :
    dmaCycle s = s.setDma { s.dma with
      data := peek s (wordOf s.dma.page (BitVec.ofNat 8 s.dma.index)), phase := .write } := by
  simp only [dmaCycle, hwait, hphase, memRead_plain s _ hplain, Nat.lt_irrefl, if_false]

/-- A write cycle (R241). -/
theorem dmaCycle_write {s : State} (hwait : s.dma.wait = 0) (hphase : s.dma.phase = .write) :
    dmaCycle s = (s.setPpuBus { s.ppuBus with ppu := writeOamData s.ppu s.dma.data }).setDma { s.dma with
      index := s.dma.index + 1
      phase := .read
      active := s.dma.active && decide (s.dma.index + 1 ≠ 256) } := by
  rw [dmaCycle, if_neg (hwait ▸ Nat.lt_irrefl 0), hphase]
  rfl

/-- The wait cycles of a transfer pass one by one (R241). -/
theorem repeated_dmaCycle_wait {s : State} {k : Nat} (h : k ≤ s.dma.wait) :
    repeated dmaCycle k s = s.setDma { s.dma with wait := s.dma.wait - k } := by
  induction k with
  | zero => rfl
  | succ k ih =>
    have hleft : 0 < s.dma.wait - k := by omega
    rw [repeated_succ, ih (by omega), dmaCycle_wait hleft]
    rfl

/-- The wait cycles after a $4014 write (R240, R241). -/
theorem repeated_dmaCycle_started {s : State} (h : ∀ cs, s.cart ≠ .custom cs) {page : Byte} {k : Nat}
    (hk : k ≤ (startDma s.dma s.cpuCycles page).wait) :
    repeated dmaCycle k (memWrite s 0x4014#16 page) = s.setDma { startDma s.dma s.cpuCycles page with
      wait := (startDma s.dma s.cpuCycles page).wait - k } := by
  rw [memWrite_oamDma h]
  exact repeated_dmaCycle_wait (s := s.setDma (startDma s.dma s.cpuCycles page)) hk

/-! ### The bytes of a transfer -/

/-- The machine `t` has copied the bytes below `j` of a page of `s` to OAM, and is about to read byte `j`; the
transfer is over once all 256 are copied (R241). -/
structure CopiedUpTo (s : State) (page : Byte) (j : Nat) (t : State) : Prop where
  cpu : t.cpu = s.cpu
  ram : t.ram = s.ram
  cart : t.cart = s.cart
  dma : t.dma =
    { page := page, index := j, wait := 0, phase := .read, active := decide (j ≠ 256), data := t.dma.data }
  oamAddr : t.ppu.oamAddr = s.ppu.oamAddr + BitVec.ofNat 8 j
  oam : ∀ i : Byte, i.toNat < j → Memory.load t.ppu.oam (s.ppu.oamAddr + i).toNat =
    oamMask (s.ppu.oamAddr + i).toNat (peek s (wordOf page i))

/-- A page of plain memory holds plain addresses only (R45). -/
theorem plainAddress_page {s : State} (h : ∀ cs, s.cart ≠ .custom cs) {page : Byte}
    (hpage : page.toNat < 0x20 ∨ 0x41 ≤ page.toNat) (i : Byte) : PlainAddress s (wordOf page i) := by
  have hi := i.isLt
  refine ⟨h, ?_⟩
  rw [wordOf_toNat]
  omega

section
variable {s t : State} {page : Byte} {j : Nat}

theorem CopiedUpTo.active (h : CopiedUpTo s page j t) : t.dma.active = decide (j ≠ 256) := congrArg Dma.active h.dma

/-- The read cycle of byte `j` (R241). -/
theorem CopiedUpTo.read (h : CopiedUpTo s page j t) (hlisted : ∀ cs, s.cart ≠ .custom cs)
    (hpage : page.toNat < 0x20 ∨ 0x41 ≤ page.toNat) : dmaCycle t = t.setDma { t.dma with
      data := peek s (wordOf page (BitVec.ofNat 8 j)), phase := .write } := by
  have hindex : t.dma.index = j := congrArg Dma.index h.dma
  have hp : t.dma.page = page := congrArg Dma.page h.dma
  have hplain := plainAddress_page hlisted hpage (BitVec.ofNat 8 j)
  have hplain' : PlainAddress t (wordOf t.dma.page (BitVec.ofNat 8 t.dma.index)) := by
    rw [hp, hindex]
    exact ⟨h.cart ▸ hlisted, hplain.2⟩
  rw [dmaCycle_read (congrArg Dma.wait h.dma) (congrArg Dma.phase h.dma) hplain', hp, hindex,
    peek_plain_congr hplain h.ram h.cart]

/-- OAM after the write of byte `j`: that byte is the new one, those before it are as they were (R186). -/
theorem CopiedUpTo.oam_succ (h : CopiedUpTo s page j t) (hj : j < 256) (i : Byte) (hi : i.toNat < j + 1) :
    Memory.load (writeOamData t.ppu (peek s (wordOf page (BitVec.ofNat 8 j)))).oam (s.ppu.oamAddr + i).toNat =
      oamMask (s.ppu.oamAddr + i).toNat (peek s (wordOf page i)) := by
  simp only [writeOamData, h.oamAddr]
  by_cases hlast : i = BitVec.ofNat 8 j
  · rw [hlast, Memory.load_store_same]
  · have hne : i.toNat ≠ j := fun e => hlast (BitVec.eq_of_toNat_eq (by
      rw [BitVec.toNat_ofNat, e]; exact (Nat.mod_eq_of_lt hj).symm))
    have hcell : (s.ppu.oamAddr + i).toNat ≠ (s.ppu.oamAddr + BitVec.ofNat 8 j).toNat := fun e =>
      hlast (add_left_cancel (BitVec.eq_of_toNat_eq e))
    rw [Memory.load_store_other _ _ hcell]
    exact h.oam i (by omega)

/-- A pair of cycles copies one byte more (R241). -/
theorem CopiedUpTo.succ (h : CopiedUpTo s page j t) (hlisted : ∀ cs, s.cart ≠ .custom cs)
    (hpage : page.toNat < 0x20 ∨ 0x41 ≤ page.toNat) (hj : j < 256) :
    CopiedUpTo s page (j + 1) (dmaCycle (dmaCycle t)) := by
  have hwait : t.dma.wait = 0 := congrArg Dma.wait h.dma
  have hindex : t.dma.index = j := congrArg Dma.index h.dma
  have hp : t.dma.page = page := congrArg Dma.page h.dma
  have hactive : t.dma.active = true := h.active.trans (decide_eq_true (Nat.ne_of_lt hj))
  rw [h.read hlisted hpage, dmaCycle_write]
  · refine ⟨h.cpu, h.ram, h.cart, ?_, ?_, h.oam_succ hj⟩
    · simp only [State.setDma_dma, hwait, hindex, hp, hactive, Bool.true_and]
    · show t.ppu.oamAddr + 1 = _
      rw [h.oamAddr, BitVec.add_assoc, BitVec.ofNat_add]
      rfl
  · exact hwait
  · rfl

end

/-- The transfer a $4014 write starts, from a page of plain memory: after its wait cycles each pair of cycles copies a
byte (R240, R241). -/
theorem copiedUpTo_of_start {s : State} (hlisted : ∀ cs, s.cart ≠ .custom cs) {page : Byte}
    (hpage : page.toNat < 0x20 ∨ 0x41 ≤ page.toNat) {j : Nat} (hj : j ≤ 256) :
    CopiedUpTo s page j
      (repeated dmaCycle ((startDma s.dma s.cpuCycles page).wait + 2 * j) (memWrite s 0x4014#16 page)) := by
  induction j with
  | zero =>
    rw [Nat.mul_zero, Nat.add_zero, repeated_dmaCycle_started hlisted (Nat.le_refl _)]
    refine ⟨rfl, rfl, rfl, ?_, (BitVec.add_zero _).symm, fun i hi => absurd hi (Nat.not_lt_zero _)⟩
    simp only [State.setDma_dma, Nat.sub_self]
    rfl
  | succ j ih =>
    have hprev := ih (Nat.le_of_succ_le hj)
    exact repeated_add dmaCycle _ 2 _ ▸ hprev.succ hlisted hpage hj

/-- The transfer is active until its last cycle (R241). -/
theorem transfer_active {s : State} (hlisted : ∀ cs, s.cart ≠ .custom cs) {page : Byte}
    (hpage : page.toNat < 0x20 ∨ 0x41 ≤ page.toNat) {k : Nat}
    (hk : k < (startDma s.dma s.cpuCycles page).wait + 2 * 256) :
    (repeated dmaCycle k (memWrite s 0x4014#16 page)).dma.active = true := by
  by_cases hwait : k ≤ (startDma s.dma s.cpuCycles page).wait
  · rw [repeated_dmaCycle_started hlisted hwait]
    rfl
  · obtain ⟨j, hj⟩ : ∃ j, k = (startDma s.dma s.cpuCycles page).wait + 2 * j ∨
        k = (startDma s.dma s.cpuCycles page).wait + 2 * j + 1 :=
      ⟨(k - (startDma s.dma s.cpuCycles page).wait) / 2, by omega⟩
    have hlt : j < 256 := by omega
    have hcopied := copiedUpTo_of_start hlisted hpage (Nat.le_of_lt hlt)
    have hactive := hcopied.active.trans (decide_eq_true (Nat.ne_of_lt hlt))
    rcases hj with rfl | rfl
    · exact hactive
    · rw [repeated_succ, hcopied.read hlisted hpage]
      exact hactive

/-- Settles O43: the transfer's length is that of its wait and of 256 pairs of cycles, after which all is copied. -/
theorem oamDmaCopiesThePage : Obligations.OamDmaCopiesThePage := by
  intro s page n hlisted hpage hn
  have hlength : n = (startDma s.dma s.cpuCycles page).wait + 2 * 256 := by
    rw [hn, startDma_wait]
    omega
  subst hlength
  have hdone := copiedUpTo_of_start hlisted hpage (Nat.le_refl 256)
  refine ⟨fun k hk => transfer_active hlisted hpage hk, hdone.active, ?_, hdone.cpu, hdone.ram, fun i => ?_⟩
  · rw [hdone.oamAddr]
    exact BitVec.add_zero _
  · rw [oamLoad, hdone.oam i i.isLt, oamMask_idem]

/-! ### The controller ports -/

/-- The ports after a strobe and `k` reads of port 0 (R245, R246). -/
def afterStrobe (c : Controllers) (k : Nat) : Controllers :=
  { c with strobe := false, shift0 := c.state0 <<< k, shift1 := c.state1 }

/-- A strobe loads the shift registers and lets them go (R245). -/
theorem memWrite_strobe {s : State} (h : ∀ cs, s.cart ≠ .custom cs) :
    memWrite (memWrite s 0x4016#16 1) 0x4016#16 0 = s.setCtrl (afterStrobe s.ctrl 0) := by
  have hset : memWrite s 0x4016#16 1 = s.setCtrl (writeStrobe s.ctrl 1) := memWrite_register h (by decide) 1
  have hclear : memWrite (s.setCtrl (writeStrobe s.ctrl 1)) 0x4016#16 0 =
      s.setCtrl (writeStrobe (writeStrobe s.ctrl 1) 0) :=
    memWrite_register (s := s.setCtrl (writeStrobe s.ctrl 1)) h (by decide) 0
  rw [hset, hclear, afterStrobe, BitVec.shiftLeft_zero]
  rfl

/-- A read of port 0 after a strobe gives the top bit of what is left, and shifts it out (R246). -/
theorem memRead_port0_afterStrobe {s : State} (h : ∀ cs, s.cart ≠ .custom cs) (c : Controllers) (k : Nat) :
    memRead (s.setCtrl (afterStrobe c k)) 0x4016#16 =
      (portByte s.params.ctrlOpenBus (c.state0 <<< k), s.setCtrl (afterStrobe c (k + 1))) := by
  rw [memRead_register (s := s.setCtrl (afterStrobe c k)) h (by decide), afterStrobe, afterStrobe,
    BitVec.shiftLeft_add]
  rfl

theorem repeated_memRead_port0 {s : State} (h : ∀ cs, s.cart ≠ .custom cs) (c : Controllers) (k : Nat) :
    repeated (fun t => (memRead t 0x4016#16).2) k (s.setCtrl (afterStrobe c 0)) = s.setCtrl (afterStrobe c k) := by
  induction k with
  | zero => rfl
  | succ k ih => rw [repeated_succ, ih, memRead_port0_afterStrobe h]

theorem ushiftRight_seven (y : Byte) : y >>> 7 = if y.getLsbD 7 = true then 1#8 else 0 := by
  apply BitVec.eq_of_getLsbD_eq
  intro i hi
  rw [BitVec.getLsbD_ushiftRight]
  obtain rfl | hpos := Nat.eq_zero_or_pos i
  · cases y.getLsbD 7 <;> rfl
  · have hzero : ¬ i = 0 := by omega
    rw [BitVec.getLsbD_of_ge _ _ (by omega)]
    split <;> simp [hzero]

/-- The top bit of a button byte shifted `k` places (R246). -/
theorem shiftLeft_topBit (x : Byte) (k : Nat) :
    (x <<< k) >>> 7 = if k < 8 ∧ x.getLsbD (7 - k) = true then 1#8 else 0 := by
  have htop : (x <<< k).getLsbD 7 = (decide (k < 8) && x.getLsbD (7 - k)) := by
    rw [BitVec.getLsbD_shiftLeft]
    by_cases hk : k < 8
    · have hle : ¬ 7 < k := by omega
      simp [hk, hle]
    · have hlt : 7 < k := by omega
      simp [hk, hlt]
  rw [ushiftRight_seven, htop]
  simp only [Bool.and_eq_true, decide_eq_true_eq]

/-- Settles O60: after `k` reads the register holds the buttons shifted `k` places. -/
theorem controllerShiftsOut : Obligations.ControllerShiftsOut := by
  intro s k hlisted
  rw [memWrite_strobe hlisted, repeated_memRead_port0 hlisted, memRead_port0_afterStrobe hlisted]
  show portByte _ _ = _
  rw [portByte, shiftLeft_topBit]

end Sys2Proof.Machine
